-- ==== Sys2Proof/Word.lean ====
section
/-! DEFINITION. The values the hardware exchanges: Signals, Words, and their integer readings. -/

namespace Sys2Proof

/-- A Signal: one bit, `false` is low (0) and `true` is high (1) (`00_scope.md` R12).
There is no unknown or high-impedance value (R5, D8). -/
abbrev Signal := Bool

/-- A Word: 16 Signals, index 0 least significant, index 15 the sign (`00_scope.md` R12). -/
abbrev Word := BitVec 16

/-- A byte of the stimulus queue. The CORE has no bytes (`20_memory.md` R51);
they appear in the model's own call records only (log entry 2). -/
abbrev Byte := BitVec 8

/-- The unsigned reading of a Word (`00_scope.md` R13). -/
def uint (w : Word) : Nat := w.toNat

/-- The two's-complement reading of a Word (`00_scope.md` R13). -/
def sint (w : Word) : Int := if w.getLsbD 15 then (uint w : Int) - 65536 else uint w

/-- `Word(n)`: the Word whose unsigned reading is `n mod 65536` (`00_scope.md` R13). -/
def wordOf (n : Nat) : Word := BitVec.ofNat 16 n

/-- A Signal as a number, `false` 0 and `true` 1 (`00_scope.md` R12). -/
def signalNat (a : Signal) : Nat := if a then 1 else 0

end Sys2Proof
end

