-- ==== Sys2Proof/Config.lean ====
section
/-! DEFINITION. What is fixed for the machine: the tier table, and the parameters the spec leaves to the model
(`00_scope.md` R7). -/

namespace Sys2Proof

/-- The six RAM tiers (`44_tiered_ram.md` R261). Six tier types, five levels of nesting (R275):
`ram8K` and `ram16K` are two variants of the fifth level. -/
inductive Tier where
  | ram8 | ram64 | ram512 | ram4K | ram8K | ram16K
deriving DecidableEq, Repr

/-- Address width in bits, a column of the tier table (R261). -/
def Tier.addressWidth : Tier → Nat
  | .ram8 => 3 | .ram64 => 6 | .ram512 => 9 | .ram4K => 12 | .ram8K => 13 | .ram16K => 14

/-- Number of children of a node, a column of the tier table (R261). -/
def Tier.fanOut : Tier → Nat
  | .ram8 => 8 | .ram64 => 8 | .ram512 => 8 | .ram4K => 8 | .ram8K => 2 | .ram16K => 4

/-- Width of the local selector, `log2` of the fan-out (R260). -/
def Tier.selectorWidth : Tier → Nat
  | .ram8 => 3 | .ram64 => 3 | .ram512 => 3 | .ram4K => 3 | .ram8K => 1 | .ram16K => 2

/-- Width of the address forwarded to every child, a column of the tier table (R261). -/
def Tier.forwardedWidth : Tier → Nat
  | .ram8 => 0 | .ram64 => 3 | .ram512 => 6 | .ram4K => 9 | .ram8K => 12 | .ram16K => 12

/-- Capacity in Words, a column of the tier table (R261). -/
def Tier.capacity : Tier → Nat
  | .ram8 => 8 | .ram64 => 64 | .ram512 => 512 | .ram4K => 4096 | .ram8K => 8192 | .ram16K => 16384

namespace Config

/-- The identity string (`00_scope.md` R1, D1). -/
def identity : String := "MoffuGit/nand CORE (spec v7)"

/-- `WORD_BITS`, also `LATCHES_PER_REGISTER` and `PC_BITS` (`00_scope.md` R7). -/
def wordBits : Nat := 16

/-- The default of `NREG`, the number of stand-alone Registers the caller owns. `NREG` itself is an argument (R7, D11): `Instr`,
`State`, the meanings and `Machine/AnyCensus.lean` take it, and it is this value where it is not given.
DESIGN CHOICE (the spec's default; log entry 3): the source gives no count. -/
def nreg : Nat := 2

/-- The default of `TOP_RAM_TIER`, the tier of the aggregate's `ram` (`10_state.md` R35). `TOP_RAM_TIER` itself is an argument
(R7, D11) of everything that speaks of `ram`. DESIGN CHOICE (the spec's default; log entry 3): the source does not say. -/
def topRamTier : Tier := .ram16K

/-- `pc_to_address` (D19): how the excluded layer narrows a counter value to an address of the top RAM. OPEN in the spec, so it
has no body; no rule of the core uses it, and neither does any definition of this model (log entry 8). -/
opaque pcToAddress (top : Tier := topRamTier) : Word → BitVec top.addressWidth

end Config

end Sys2Proof
end

