-- ==== Sys2Proof/Syntax.lean ====
section
/-! DEFINITION. Operations, calls of them with arguments in the source's own order, and `Instr`: one constructor per row
of `spec/opcode_table.json`. -/

namespace Sys2Proof

/-- The 30 operations of the hardware, in the source's order (`30_encoding.md` R89). -/
inductive Operation where
  | nand | not | and | or | xor | mux | dmux | not16 | and16 | or16 | mux16 | or8way
  | mux4way16 | mux8way16 | dmux4way | dmux8way
  | halfAdder | fullAdder | add16 | inc16 | alu
  | latchLoad | registerLoad
  | ram8Load | ram64Load | ram512Load | ram4KLoad | ram8KLoad | ram16KLoad
  | pcLoad
deriving DecidableEq, Repr

/-- A call as a caller writes it: the operation, which unit of that kind it is made on (a Register's number, 0
otherwise), and every argument as a natural number in the source's argument order (`30_encoding.md` R80, R100).
Naturals let an argument that is too wide be written down, so that it can be refused at the boundary (U1, R57, R331). -/
structure Call where
  op : Operation
  unit : Nat
  args : List Nat
deriving DecidableEq, Repr

/-- The owners of persistent state (`10_state.md` R22, R26, R27, R35): what a stateful call is made on.
`nreg` is the argument `NREG` (`00_scope.md` R7). -/
inductive Component (nreg : Nat := Config.nreg) where
  | latch
  | register (i : Fin nreg)
  | ram (t : Tier)
  | pc
deriving DecidableEq, Repr

/-- One constructor per row of `spec/opcode_table.json`, in the table's order. Data operands and control fields are typed
by their width, so an argument outside its domain cannot be written (`20_memory.md` R57, `30_encoding.md` R90). `nreg` is the argument
`NREG` (`00_scope.md` R7): which Registers a call can be made on. -/
inductive Instr (nreg : Nat := Config.nreg) where
  -- Primitive Logic (R111 to R126)
  | nand (a b : Signal)
  | not (a : Signal)
  | and (a b : Signal)
  | or (a b : Signal)
  | xor (a b : Signal)
  | mux (a b sel : Signal)
  | dmux (input sel : Signal)
  | not16 (a : Word)
  | and16 (a b : Word)
  | or16 (a b : Word)
  | mux16 (a b : Word) (sel : Signal)
  | or8way (bits8 : BitVec 8)
  | mux4way16 (a b c d : Word) (sel2 : BitVec 2)
  | mux8way16 (a b c d e f g h : Word) (sel3 : BitVec 3)
  | dmux4way (input : Signal) (sel2 : BitVec 2)
  | dmux8way (input : Signal) (sel3 : BitVec 3)
  -- Arithmetic Unit, the adders (R141 to R144)
  | halfAdder (a b : Signal)
  | fullAdder (a b c : Signal)
  | add16 (a b : Word)
  | inc16 (a : Word)
  -- Arithmetic Unit, the ALU: digits are `zx nx zy ny f no` (R170 to R233)
  | alu000000 (x y : Word)
  | alu000001 (x y : Word)
  | alu000010 (x y : Word)
  | alu000011 (x y : Word)
  | alu000100 (x y : Word)
  | alu000101 (x y : Word)
  | alu000110 (x y : Word)
  | alu000111 (x y : Word)
  | alu001000 (x y : Word)
  | alu001001 (x y : Word)
  | alu001010 (x y : Word)
  | alu001011 (x y : Word)
  | alu001100 (x y : Word)
  | alu001101 (x y : Word)
  | alu001110 (x y : Word)
  | alu001111 (x y : Word)
  | alu010000 (x y : Word)
  | alu010001 (x y : Word)
  | alu010010 (x y : Word)
  | alu010011 (x y : Word)
  | alu010100 (x y : Word)
  | alu010101 (x y : Word)
  | alu010110 (x y : Word)
  | alu010111 (x y : Word)
  | alu011000 (x y : Word)
  | alu011001 (x y : Word)
  | alu011010 (x y : Word)
  | alu011011 (x y : Word)
  | alu011100 (x y : Word)
  | alu011101 (x y : Word)
  | alu011110 (x y : Word)
  | alu011111 (x y : Word)
  | alu100000 (x y : Word)
  | alu100001 (x y : Word)
  | alu100010 (x y : Word)
  | alu100011 (x y : Word)
  | alu100100 (x y : Word)
  | alu100101 (x y : Word)
  | alu100110 (x y : Word)
  | alu100111 (x y : Word)
  | alu101000 (x y : Word)
  | alu101001 (x y : Word)
  | alu101010 (x y : Word)
  | alu101011 (x y : Word)
  | alu101100 (x y : Word)
  | alu101101 (x y : Word)
  | alu101110 (x y : Word)
  | alu101111 (x y : Word)
  | alu110000 (x y : Word)
  | alu110001 (x y : Word)
  | alu110010 (x y : Word)
  | alu110011 (x y : Word)
  | alu110100 (x y : Word)
  | alu110101 (x y : Word)
  | alu110110 (x y : Word)
  | alu110111 (x y : Word)
  | alu111000 (x y : Word)
  | alu111001 (x y : Word)
  | alu111010 (x y : Word)
  | alu111011 (x y : Word)
  | alu111100 (x y : Word)
  | alu111101 (x y : Word)
  | alu111110 (x y : Word)
  | alu111111 (x y : Word)
  -- Latch and Register (R240, R241)
  | latchLoadRead (input : Signal)
  | latchLoadWrite (input : Signal)
  | registerLoadRead (i : Fin nreg) (input : Word)
  | registerLoadWrite (i : Fin nreg) (input : Word)
  -- Tiered RAM (R265 to R270)
  | ram8LoadRead (address : BitVec 3) (input : Word)
  | ram8LoadWrite (address : BitVec 3) (input : Word)
  | ram64LoadRead (address : BitVec 6) (input : Word)
  | ram64LoadWrite (address : BitVec 6) (input : Word)
  | ram512LoadRead (address : BitVec 9) (input : Word)
  | ram512LoadWrite (address : BitVec 9) (input : Word)
  | ram4KLoadRead (address : BitVec 12) (input : Word)
  | ram4KLoadWrite (address : BitVec 12) (input : Word)
  | ram8KLoadRead (address : BitVec 13) (input : Word)
  | ram8KLoadWrite (address : BitVec 13) (input : Word)
  | ram16KLoadRead (address : BitVec 14) (input : Word)
  | ram16KLoadWrite (address : BitVec 14) (input : Word)
  -- Program Counter (R302 to R305); the control lines a class does not look at are fields of the row (R84)
  | pcReset (load inc : Signal) (input : Word)
  | pcLoad (inc : Signal) (input : Word)
  | pcInc (input : Word)
  | pcHold (input : Word)
deriving DecidableEq, Repr

end Sys2Proof
end

