-- ==== Sys2Proof/WellFormed.lean ====
section
/-! DEFINITION. Which calls, and which cycles of calls, the caller may make. An `Instr` needs no check of its own: its
operands are typed by their width (`20_memory.md` R57), so what can be ill-formed is a `Call`, whose arguments are
naturals, and a cycle, which is a list of calls. -/

namespace Sys2Proof

/-- The widths of an operation's arguments in the source's argument order: a Signal 1, a Word 16, a selector or an
address its own width (`30_encoding.md` R80; R111 to R126, R141 to R144, R160, R240, R241, R265 to R270, R300). -/
def Operation.argWidths : Operation → List Nat
  | .nand => [1, 1]
  | .not => [1]
  | .and => [1, 1]
  | .or => [1, 1]
  | .xor => [1, 1]
  | .mux => [1, 1, 1]
  | .dmux => [1, 1]
  | .not16 => [16]
  | .and16 => [16, 16]
  | .or16 => [16, 16]
  | .mux16 => [16, 16, 1]
  | .or8way => [8]
  | .mux4way16 => [16, 16, 16, 16, 2]
  | .mux8way16 => [16, 16, 16, 16, 16, 16, 16, 16, 3]
  | .dmux4way => [1, 2]
  | .dmux8way => [1, 3]
  | .halfAdder => [1, 1]
  | .fullAdder => [1, 1, 1]
  | .add16 => [16, 16]
  | .inc16 => [16]
  | .alu => [16, 16, 1, 1, 1, 1, 1, 1]
  | .latchLoad => [1, 1]
  | .registerLoad => [16, 1]
  | .ram8Load => [16, 1, 3]
  | .ram64Load => [16, 1, 6]
  | .ram512Load => [16, 1, 9]
  | .ram4KLoad => [16, 1, 12]
  | .ram8KLoad => [16, 1, 13]
  | .ram16KLoad => [16, 1, 14]
  | .pcLoad => [16, 1, 1, 1]

/-- How many units an operation may be called on: `NREG` for `Register.load` (`10_state.md` R26), one otherwise
(R35; log entry 3). -/
def Operation.units (op : Operation) (nreg : Nat := Config.nreg) : Nat :=
  match op with
  | .registerLoad => nreg
  | _ => 1

/-- Every argument is below two to the power of its width, and there are as many as the signature says. -/
def argsFit : List Nat → List Nat → Bool
  | [], [] => true
  | w :: ws, a :: as => decide (a < 2 ^ w) && argsFit ws as
  | _, _ => false

/-- A call is in the domain of its operation: its unit exists (check 1), it has as many arguments as the signature
(check 2), and each is in range (check 3; `20_memory.md` R57, `93_implementation_defined.md` U1). -/
def Call.wellFormed (c : Call) (nreg : Nat := Config.nreg) : Bool :=
  decide (c.unit < c.op.units nreg) && (c.args.length == c.op.argWidths.length) && argsFit c.op.argWidths c.args

/-- The owner of state a call is made on; `none` for a pure operation (`70_reset_and_hazards.md` R365). -/
def Instr.component? {nreg : Nat} : Instr nreg → Option (Component nreg)
  | .latchLoadRead _ | .latchLoadWrite _ => some .latch
  | .registerLoadRead i _ | .registerLoadWrite i _ => some (.register i)
  | .ram8LoadRead _ _ | .ram8LoadWrite _ _ => some (.ram .ram8)
  | .ram64LoadRead _ _ | .ram64LoadWrite _ _ => some (.ram .ram64)
  | .ram512LoadRead _ _ | .ram512LoadWrite _ _ => some (.ram .ram512)
  | .ram4KLoadRead _ _ | .ram4KLoadWrite _ _ => some (.ram .ram4K)
  | .ram8KLoadRead _ _ | .ram8KLoadWrite _ _ => some (.ram .ram8K)
  | .ram16KLoadRead _ _ | .ram16KLoadWrite _ _ => some (.ram .ram16K)
  | .pcReset _ _ _ | .pcLoad _ _ | .pcInc _ | .pcHold _ => some .pc
  | _ => none

/-- One cycle is a list of calls, at most one on each owner of state; pure operations may occur any number of times
(`70_reset_and_hazards.md` R365, `30_encoding.md` R100). -/
def cycleWellFormed {nreg : Nat} (cycle : List (Instr nreg)) : Bool :=
  decide (cycle.filterMap Instr.component?).Nodup

end Sys2Proof
end

