-- ==== Sys2Proof/Decode.lean ====
section
/-! DEFINITION. The decoder, total on any bytes, and after it the encoder. The source passes every control line as an
argument of its own and packs nothing (D9, D10); what is packed here is the control word of `30_encoding.md` R80, inside a
call record whose layout is the model's (log entry 2): operation number, unit number, the control word's low and high byte,
then each data operand as two bytes, low byte first. -/

namespace Sys2Proof

/-- Why a call record is turned away before it reaches the hardware (`60_exceptions.md` R331, U1: "refuse"). -/
inductive DecodeError where
  /-- The record ends before its last operand. -/
  | truncated
  /-- The operation number is none of the 30 (`30_encoding.md` R89). -/
  | unknownOperation
  /-- The control word has a bit set above its format's width (for a RAM, an address too wide: R57). -/
  | controlTooWide
  /-- The unit number names no unit the caller owns (`10_state.md` R26). -/
  | noSuchUnit
  /-- The call has more or fewer arguments than the operation. -/
  | wrongArgumentCount
  /-- An argument does not fit the width the operation gives it. -/
  | argumentTooWide
deriving DecidableEq, Repr

/-! ### Formats (`30_encoding.md` R80) -/

/-- The formats of R80. -/
inductive Format where
  | comb | sel1 | sel2 | sel3 | alu6 | wr | ram (addressWidth : Nat) | pc3
deriving DecidableEq, Repr

/-- How many bits a format's control word has (R80, the packed pattern). -/
def Format.width : Format → Nat
  | .comb => 0
  | .sel1 => 1
  | .sel2 => 2
  | .sel3 => 3
  | .alu6 => 6
  | .wr => 1
  | .ram w => w + 1
  | .pc3 => 3

/-- The format of each operation (R80, last column). -/
def Operation.format : Operation → Format
  | .nand | .not | .and | .or | .xor | .not16 | .and16 | .or16 | .or8way => .comb
  | .halfAdder | .fullAdder | .add16 | .inc16 => .comb
  | .mux | .mux16 | .dmux => .sel1
  | .mux4way16 | .dmux4way => .sel2
  | .mux8way16 | .dmux8way => .sel3
  | .alu => .alu6
  | .latchLoad | .registerLoad => .wr
  | .ram8Load => .ram 3
  | .ram64Load => .ram 6
  | .ram512Load => .ram 9
  | .ram4KLoad => .ram 12
  | .ram8KLoad => .ram 13
  | .ram16KLoad => .ram 14
  | .pcLoad => .pc3

/-- Bit `i` of a packed control word, as an argument. -/
def controlBit (control i : Nat) : Nat := control / 2 ^ i % 2

/-- The arguments of a call from its data operands and its packed control word, in the source's order: R81 for `ALU6`,
R82 for `WR`, R83 for `RAMw`, R84 for `PC3` (packed `reset load inc`, argument order `load inc reset`), R85 for the
selectors. -/
def Format.unpack (f : Format) (control : Nat) (data : List Nat) : List Nat :=
  match f with
  | .comb => data
  | .sel1 | .sel2 | .sel3 | .wr => data ++ [control]
  | .alu6 => data ++ [controlBit control 5, controlBit control 4, controlBit control 3,
      controlBit control 2, controlBit control 1, controlBit control 0]
  | .ram w => data ++ [control / 2 ^ w, control % 2 ^ w]
  | .pc3 => data ++ [controlBit control 1, controlBit control 0, controlBit control 2]

/-- How many data operands, beside the control operands, an operation has (R80). -/
def Operation.dataCount : Operation → Nat
  | .not | .not16 | .or8way | .inc16 => 1
  | .nand | .and | .or | .xor | .and16 | .or16 | .halfAdder | .add16 => 2
  | .fullAdder => 3
  | .mux | .mux16 => 2
  | .dmux | .dmux4way | .dmux8way => 1
  | .mux4way16 => 4
  | .mux8way16 => 8
  | .alu => 2
  | .latchLoad | .registerLoad => 1
  | .ram8Load | .ram64Load | .ram512Load | .ram4KLoad | .ram8KLoad | .ram16KLoad => 1
  | .pcLoad => 1

/-! ### Operation numbers (`30_encoding.md` R89; the numbers are the model's, log entry 2) -/

/-- The operations by number, in the order of R89. -/
def Operation.byNumber : List Operation :=
  [.nand, .not, .and, .or, .xor, .mux, .dmux, .not16, .and16, .or16, .mux16, .or8way,
    .mux4way16, .mux8way16, .dmux4way, .dmux8way] ++
  [.halfAdder, .fullAdder, .add16, .inc16, .alu, .latchLoad, .registerLoad,
    .ram8Load, .ram64Load, .ram512Load, .ram4KLoad, .ram8KLoad, .ram16KLoad, .pcLoad]

/-- The operation a number stands for. -/
def Operation.ofNumber (n : Nat) : Option Operation := Operation.byNumber[n]?

/-- The number of an operation. -/
def Operation.number : Operation → Byte
  | .nand => 0
  | .not => 1
  | .and => 2
  | .or => 3
  | .xor => 4
  | .mux => 5
  | .dmux => 6
  | .not16 => 7
  | .and16 => 8
  | .or16 => 9
  | .mux16 => 10
  | .or8way => 11
  | .mux4way16 => 12
  | .mux8way16 => 13
  | .dmux4way => 14
  | .dmux8way => 15
  | .halfAdder => 16
  | .fullAdder => 17
  | .add16 => 18
  | .inc16 => 19
  | .alu => 20
  | .latchLoad => 21
  | .registerLoad => 22
  | .ram8Load => 23
  | .ram64Load => 24
  | .ram512Load => 25
  | .ram4KLoad => 26
  | .ram8KLoad => 27
  | .ram16KLoad => 28
  | .pcLoad => 29

/-! ### From a call to an instruction -/

/-- An argument read as a Signal. -/
def argSignal (a : Nat) : Signal := a % 2 == 1

/-- The ALU combination chosen by six control lines in the order `zx nx zy ny f no` (`30_encoding.md` R81). Every one of
the 64 is legal (R90). This only names the table row; the row's meaning is computed by the four stages (R165). -/
def Instr.ofAlu {nreg : Nat} (zx nx zy ny f no : Signal) (x y : Word) : Instr nreg :=
  match zx, nx, zy, ny, f, no with
  | false, false, false, false, false, false => .alu000000 x y
  | false, false, false, false, false, true => .alu000001 x y
  | false, false, false, false, true, false => .alu000010 x y
  | false, false, false, false, true, true => .alu000011 x y
  | false, false, false, true, false, false => .alu000100 x y
  | false, false, false, true, false, true => .alu000101 x y
  | false, false, false, true, true, false => .alu000110 x y
  | false, false, false, true, true, true => .alu000111 x y
  | false, false, true, false, false, false => .alu001000 x y
  | false, false, true, false, false, true => .alu001001 x y
  | false, false, true, false, true, false => .alu001010 x y
  | false, false, true, false, true, true => .alu001011 x y
  | false, false, true, true, false, false => .alu001100 x y
  | false, false, true, true, false, true => .alu001101 x y
  | false, false, true, true, true, false => .alu001110 x y
  | false, false, true, true, true, true => .alu001111 x y
  | false, true, false, false, false, false => .alu010000 x y
  | false, true, false, false, false, true => .alu010001 x y
  | false, true, false, false, true, false => .alu010010 x y
  | false, true, false, false, true, true => .alu010011 x y
  | false, true, false, true, false, false => .alu010100 x y
  | false, true, false, true, false, true => .alu010101 x y
  | false, true, false, true, true, false => .alu010110 x y
  | false, true, false, true, true, true => .alu010111 x y
  | false, true, true, false, false, false => .alu011000 x y
  | false, true, true, false, false, true => .alu011001 x y
  | false, true, true, false, true, false => .alu011010 x y
  | false, true, true, false, true, true => .alu011011 x y
  | false, true, true, true, false, false => .alu011100 x y
  | false, true, true, true, false, true => .alu011101 x y
  | false, true, true, true, true, false => .alu011110 x y
  | false, true, true, true, true, true => .alu011111 x y
  | true, false, false, false, false, false => .alu100000 x y
  | true, false, false, false, false, true => .alu100001 x y
  | true, false, false, false, true, false => .alu100010 x y
  | true, false, false, false, true, true => .alu100011 x y
  | true, false, false, true, false, false => .alu100100 x y
  | true, false, false, true, false, true => .alu100101 x y
  | true, false, false, true, true, false => .alu100110 x y
  | true, false, false, true, true, true => .alu100111 x y
  | true, false, true, false, false, false => .alu101000 x y
  | true, false, true, false, false, true => .alu101001 x y
  | true, false, true, false, true, false => .alu101010 x y
  | true, false, true, false, true, true => .alu101011 x y
  | true, false, true, true, false, false => .alu101100 x y
  | true, false, true, true, false, true => .alu101101 x y
  | true, false, true, true, true, false => .alu101110 x y
  | true, false, true, true, true, true => .alu101111 x y
  | true, true, false, false, false, false => .alu110000 x y
  | true, true, false, false, false, true => .alu110001 x y
  | true, true, false, false, true, false => .alu110010 x y
  | true, true, false, false, true, true => .alu110011 x y
  | true, true, false, true, false, false => .alu110100 x y
  | true, true, false, true, false, true => .alu110101 x y
  | true, true, false, true, true, false => .alu110110 x y
  | true, true, false, true, true, true => .alu110111 x y
  | true, true, true, false, false, false => .alu111000 x y
  | true, true, true, false, false, true => .alu111001 x y
  | true, true, true, false, true, false => .alu111010 x y
  | true, true, true, false, true, true => .alu111011 x y
  | true, true, true, true, false, false => .alu111100 x y
  | true, true, true, true, false, true => .alu111101 x y
  | true, true, true, true, true, false => .alu111110 x y
  | true, true, true, true, true, true => .alu111111 x y

/-- The class of a Program Counter call: reset over load over increment over hold (`30_encoding.md` R84). -/
def Instr.ofPc {nreg : Nat} (input : Word) (load inc reset : Signal) : Instr nreg :=
  match reset, load, inc with
  | true, load, inc => .pcReset load inc input
  | false, true, inc => .pcLoad inc input
  | false, false, true => .pcInc input
  | false, false, false => .pcHold input

/-- A row of the table chosen by the `write` line (`30_encoding.md` R82, R83). -/
def Instr.ofWrite {nreg : Nat} (write : Signal) (readRow writeRow : Instr nreg) : Instr nreg :=
  match write with
  | true => writeRow
  | false => readRow

/-- The call as an instruction, when it has as many arguments as its operation and its unit exists. -/
def Call.build (c : Call) (nreg : Nat := Config.nreg) : Option (Instr nreg) :=
  match c.op with
  | .nand => match c.args with
    | [a, b] => some (.nand (argSignal a) (argSignal b))
    | _ => none
  | .and => match c.args with
    | [a, b] => some (.and (argSignal a) (argSignal b))
    | _ => none
  | .or => match c.args with
    | [a, b] => some (.or (argSignal a) (argSignal b))
    | _ => none
  | .xor => match c.args with
    | [a, b] => some (.xor (argSignal a) (argSignal b))
    | _ => none
  | .not => match c.args with
    | [a] => some (.not (argSignal a))
    | _ => none
  | .mux => match c.args with
    | [a, b, sel] => some (.mux (argSignal a) (argSignal b) (argSignal sel))
    | _ => none
  | .dmux => match c.args with
    | [input, sel] => some (.dmux (argSignal input) (argSignal sel))
    | _ => none
  | .not16 => match c.args with
    | [a] => some (.not16 (wordOf a))
    | _ => none
  | .and16 => match c.args with
    | [a, b] => some (.and16 (wordOf a) (wordOf b))
    | _ => none
  | .or16 => match c.args with
    | [a, b] => some (.or16 (wordOf a) (wordOf b))
    | _ => none
  | .mux16 => match c.args with
    | [a, b, sel] => some (.mux16 (wordOf a) (wordOf b) (argSignal sel))
    | _ => none
  | .or8way => match c.args with
    | [bits8] => some (.or8way (BitVec.ofNat 8 bits8))
    | _ => none
  | .mux4way16 => match c.args with
    | [a, b, c, d, sel2] => some (.mux4way16 (wordOf a) (wordOf b) (wordOf c) (wordOf d) (BitVec.ofNat 2 sel2))
    | _ => none
  | .mux8way16 => match c.args with
    | [p, q, r, s, t, u, v, w, sel3] => some (.mux8way16 (wordOf p) (wordOf q) (wordOf r) (wordOf s)
        (wordOf t) (wordOf u) (wordOf v) (wordOf w) (BitVec.ofNat 3 sel3))
    | _ => none
  | .dmux4way => match c.args with
    | [input, sel2] => some (.dmux4way (argSignal input) (BitVec.ofNat 2 sel2))
    | _ => none
  | .dmux8way => match c.args with
    | [input, sel3] => some (.dmux8way (argSignal input) (BitVec.ofNat 3 sel3))
    | _ => none
  | .halfAdder => match c.args with
    | [a, b] => some (.halfAdder (argSignal a) (argSignal b))
    | _ => none
  | .fullAdder => match c.args with
    | [a, b, c] => some (.fullAdder (argSignal a) (argSignal b) (argSignal c))
    | _ => none
  | .add16 => match c.args with
    | [a, b] => some (.add16 (wordOf a) (wordOf b))
    | _ => none
  | .inc16 => match c.args with
    | [a] => some (.inc16 (wordOf a))
    | _ => none
  | .alu => match c.args with
    | [x, y, zx, nx, zy, ny, f, no] => some (Instr.ofAlu (argSignal zx) (argSignal nx) (argSignal zy)
        (argSignal ny) (argSignal f) (argSignal no) (wordOf x) (wordOf y))
    | _ => none
  | .latchLoad => match c.args with
    | [input, write] =>
      some (Instr.ofWrite (argSignal write) (.latchLoadRead (argSignal input)) (.latchLoadWrite (argSignal input)))
    | _ => none
  | .registerLoad => match c.args with
    | [input, write] =>
      if h : c.unit < nreg then
        some (Instr.ofWrite (argSignal write) (.registerLoadRead ⟨c.unit, h⟩ (wordOf input))
          (.registerLoadWrite ⟨c.unit, h⟩ (wordOf input)))
      else none
    | _ => none
  | .ram8Load => match c.args with
    | [input, write, address] =>
      some (Instr.ofWrite (argSignal write) (.ram8LoadRead (BitVec.ofNat 3 address) (wordOf input))
        (.ram8LoadWrite (BitVec.ofNat 3 address) (wordOf input)))
    | _ => none
  | .ram64Load => match c.args with
    | [input, write, address] =>
      some (Instr.ofWrite (argSignal write) (.ram64LoadRead (BitVec.ofNat 6 address) (wordOf input))
        (.ram64LoadWrite (BitVec.ofNat 6 address) (wordOf input)))
    | _ => none
  | .ram512Load => match c.args with
    | [input, write, address] =>
      some (Instr.ofWrite (argSignal write) (.ram512LoadRead (BitVec.ofNat 9 address) (wordOf input))
        (.ram512LoadWrite (BitVec.ofNat 9 address) (wordOf input)))
    | _ => none
  | .ram4KLoad => match c.args with
    | [input, write, address] =>
      some (Instr.ofWrite (argSignal write) (.ram4KLoadRead (BitVec.ofNat 12 address) (wordOf input))
        (.ram4KLoadWrite (BitVec.ofNat 12 address) (wordOf input)))
    | _ => none
  | .ram8KLoad => match c.args with
    | [input, write, address] =>
      some (Instr.ofWrite (argSignal write) (.ram8KLoadRead (BitVec.ofNat 13 address) (wordOf input))
        (.ram8KLoadWrite (BitVec.ofNat 13 address) (wordOf input)))
    | _ => none
  | .ram16KLoad => match c.args with
    | [input, write, address] =>
      some (Instr.ofWrite (argSignal write) (.ram16KLoadRead (BitVec.ofNat 14 address) (wordOf input))
        (.ram16KLoadWrite (BitVec.ofNat 14 address) (wordOf input)))
    | _ => none
  | .pcLoad => match c.args with
    | [input, load, inc, reset] =>
      some (Instr.ofPc (wordOf input) (argSignal load) (argSignal inc) (argSignal reset))
    | _ => none

/-- The call as an instruction, or the name of the reason it is turned away (U1: the boundary refuses it). -/
def Call.toInstr (c : Call) (nreg : Nat := Config.nreg) : Except DecodeError (Instr nreg) :=
  if c.unit < c.op.units nreg then
    if c.args.length = c.op.argWidths.length then
      if argsFit c.op.argWidths c.args then
        match c.build nreg with
        | some i => .ok i
        | none => .error .wrongArgumentCount
      else .error .argumentTooWide
    else .error .wrongArgumentCount
  else .error .noSuchUnit

/-! ### Bytes -/

/-- The low byte of a Word. -/
def lowByte (w : Word) : Byte := w.extractLsb' 0 8

/-- The high byte of a Word. -/
def highByte (w : Word) : Byte := w.extractLsb' 8 8

/-- A Word from its low and its high byte. -/
def wordOfBytes (lo hi : Byte) : Word := hi ++ lo

/-- The next `n` operand Words, low byte first, and the bytes after them. -/
def takeWords : Nat → List Byte → Option (List Word × List Byte)
  | 0, rest => some ([], rest)
  | n + 1, lo :: hi :: rest =>
    match takeWords n rest with
    | some (ws, rest') => some (wordOfBytes lo hi :: ws, rest')
    | none => none
  | _ + 1, _ => none

/-- The decoder: one call record from the front of a list of bytes, with the rest of the list; total, rejecting by name. `nreg` is
the argument `NREG` (`00_scope.md` R7): a record for a Register the caller does not own is rejected. -/
def decode (bytes : List Byte) (nreg : Nat := Config.nreg) : Except DecodeError (Instr nreg × List Byte) :=
  match bytes with
  | number :: unit :: lo :: hi :: rest =>
    match Operation.ofNumber number.toNat with
    | none => .error .unknownOperation
    | some op =>
      match takeWords op.dataCount rest with
      | none => .error .truncated
      | some (data, rest') =>
        let control := (wordOfBytes lo hi).toNat
        if control < 2 ^ op.format.width then
          match (Call.mk op unit.toNat (op.format.unpack control (data.map BitVec.toNat))).toInstr nreg with
          | .ok i => .ok (i, rest')
          | .error e => .error e
        else .error .controlTooWide
  | _ => .error .truncated

/-! ### The encoder, written from the encoding columns of R80 and of the opcode table -/

/-- A call record before it is laid out as bytes. -/
structure Packed where
  op : Operation
  unit : Nat
  control : BitVec 16
  data : List Word
deriving DecidableEq, Repr

/-- A Signal operand in a Word-sized operand field. -/
def signalWord (a : Signal) : Word := wordOf (signalNat a)

/-- A control word of `n` bits in the record's control field. -/
def controlWord {n : Nat} (bits : BitVec n) : BitVec 16 := bits.setWidth 16

/-- The record of each row: its operation, unit, the control word the row's pattern gives, and its data operands. -/
def Instr.packed {nreg : Nat} : Instr nreg → Packed
  | .nand a b => ⟨.nand, 0, 0, [signalWord a, signalWord b]⟩
  | .and a b => ⟨.and, 0, 0, [signalWord a, signalWord b]⟩
  | .or a b => ⟨.or, 0, 0, [signalWord a, signalWord b]⟩
  | .xor a b => ⟨.xor, 0, 0, [signalWord a, signalWord b]⟩
  | .not a => ⟨.not, 0, 0, [signalWord a]⟩
  | .mux a b sel => ⟨.mux, 0, controlWord (BitVec.ofBool sel), [signalWord a, signalWord b]⟩
  | .dmux input sel => ⟨.dmux, 0, controlWord (BitVec.ofBool sel), [signalWord input]⟩
  | .not16 a => ⟨.not16, 0, 0, [a]⟩
  | .and16 a b => ⟨.and16, 0, 0, [a, b]⟩
  | .or16 a b => ⟨.or16, 0, 0, [a, b]⟩
  | .mux16 a b sel => ⟨.mux16, 0, controlWord (BitVec.ofBool sel), [a, b]⟩
  | .or8way bits8 => ⟨.or8way, 0, 0, [bits8.setWidth 16]⟩
  | .mux4way16 a b c d sel2 => ⟨.mux4way16, 0, controlWord sel2, [a, b, c, d]⟩
  | .mux8way16 a b c d e f g h sel3 => ⟨.mux8way16, 0, controlWord sel3, [a, b, c, d, e, f, g, h]⟩
  | .dmux4way input sel2 => ⟨.dmux4way, 0, controlWord sel2, [signalWord input]⟩
  | .dmux8way input sel3 => ⟨.dmux8way, 0, controlWord sel3, [signalWord input]⟩
  | .halfAdder a b => ⟨.halfAdder, 0, 0, [signalWord a, signalWord b]⟩
  | .fullAdder a b c => ⟨.fullAdder, 0, 0, [signalWord a, signalWord b, signalWord c]⟩
  | .add16 a b => ⟨.add16, 0, 0, [a, b]⟩
  | .inc16 a => ⟨.inc16, 0, 0, [a]⟩
  | .alu000000 x y => ⟨.alu, 0, 0b000000, [x, y]⟩
  | .alu000001 x y => ⟨.alu, 0, 0b000001, [x, y]⟩
  | .alu000010 x y => ⟨.alu, 0, 0b000010, [x, y]⟩
  | .alu000011 x y => ⟨.alu, 0, 0b000011, [x, y]⟩
  | .alu000100 x y => ⟨.alu, 0, 0b000100, [x, y]⟩
  | .alu000101 x y => ⟨.alu, 0, 0b000101, [x, y]⟩
  | .alu000110 x y => ⟨.alu, 0, 0b000110, [x, y]⟩
  | .alu000111 x y => ⟨.alu, 0, 0b000111, [x, y]⟩
  | .alu001000 x y => ⟨.alu, 0, 0b001000, [x, y]⟩
  | .alu001001 x y => ⟨.alu, 0, 0b001001, [x, y]⟩
  | .alu001010 x y => ⟨.alu, 0, 0b001010, [x, y]⟩
  | .alu001011 x y => ⟨.alu, 0, 0b001011, [x, y]⟩
  | .alu001100 x y => ⟨.alu, 0, 0b001100, [x, y]⟩
  | .alu001101 x y => ⟨.alu, 0, 0b001101, [x, y]⟩
  | .alu001110 x y => ⟨.alu, 0, 0b001110, [x, y]⟩
  | .alu001111 x y => ⟨.alu, 0, 0b001111, [x, y]⟩
  | .alu010000 x y => ⟨.alu, 0, 0b010000, [x, y]⟩
  | .alu010001 x y => ⟨.alu, 0, 0b010001, [x, y]⟩
  | .alu010010 x y => ⟨.alu, 0, 0b010010, [x, y]⟩
  | .alu010011 x y => ⟨.alu, 0, 0b010011, [x, y]⟩
  | .alu010100 x y => ⟨.alu, 0, 0b010100, [x, y]⟩
  | .alu010101 x y => ⟨.alu, 0, 0b010101, [x, y]⟩
  | .alu010110 x y => ⟨.alu, 0, 0b010110, [x, y]⟩
  | .alu010111 x y => ⟨.alu, 0, 0b010111, [x, y]⟩
  | .alu011000 x y => ⟨.alu, 0, 0b011000, [x, y]⟩
  | .alu011001 x y => ⟨.alu, 0, 0b011001, [x, y]⟩
  | .alu011010 x y => ⟨.alu, 0, 0b011010, [x, y]⟩
  | .alu011011 x y => ⟨.alu, 0, 0b011011, [x, y]⟩
  | .alu011100 x y => ⟨.alu, 0, 0b011100, [x, y]⟩
  | .alu011101 x y => ⟨.alu, 0, 0b011101, [x, y]⟩
  | .alu011110 x y => ⟨.alu, 0, 0b011110, [x, y]⟩
  | .alu011111 x y => ⟨.alu, 0, 0b011111, [x, y]⟩
  | .alu100000 x y => ⟨.alu, 0, 0b100000, [x, y]⟩
  | .alu100001 x y => ⟨.alu, 0, 0b100001, [x, y]⟩
  | .alu100010 x y => ⟨.alu, 0, 0b100010, [x, y]⟩
  | .alu100011 x y => ⟨.alu, 0, 0b100011, [x, y]⟩
  | .alu100100 x y => ⟨.alu, 0, 0b100100, [x, y]⟩
  | .alu100101 x y => ⟨.alu, 0, 0b100101, [x, y]⟩
  | .alu100110 x y => ⟨.alu, 0, 0b100110, [x, y]⟩
  | .alu100111 x y => ⟨.alu, 0, 0b100111, [x, y]⟩
  | .alu101000 x y => ⟨.alu, 0, 0b101000, [x, y]⟩
  | .alu101001 x y => ⟨.alu, 0, 0b101001, [x, y]⟩
  | .alu101010 x y => ⟨.alu, 0, 0b101010, [x, y]⟩
  | .alu101011 x y => ⟨.alu, 0, 0b101011, [x, y]⟩
  | .alu101100 x y => ⟨.alu, 0, 0b101100, [x, y]⟩
  | .alu101101 x y => ⟨.alu, 0, 0b101101, [x, y]⟩
  | .alu101110 x y => ⟨.alu, 0, 0b101110, [x, y]⟩
  | .alu101111 x y => ⟨.alu, 0, 0b101111, [x, y]⟩
  | .alu110000 x y => ⟨.alu, 0, 0b110000, [x, y]⟩
  | .alu110001 x y => ⟨.alu, 0, 0b110001, [x, y]⟩
  | .alu110010 x y => ⟨.alu, 0, 0b110010, [x, y]⟩
  | .alu110011 x y => ⟨.alu, 0, 0b110011, [x, y]⟩
  | .alu110100 x y => ⟨.alu, 0, 0b110100, [x, y]⟩
  | .alu110101 x y => ⟨.alu, 0, 0b110101, [x, y]⟩
  | .alu110110 x y => ⟨.alu, 0, 0b110110, [x, y]⟩
  | .alu110111 x y => ⟨.alu, 0, 0b110111, [x, y]⟩
  | .alu111000 x y => ⟨.alu, 0, 0b111000, [x, y]⟩
  | .alu111001 x y => ⟨.alu, 0, 0b111001, [x, y]⟩
  | .alu111010 x y => ⟨.alu, 0, 0b111010, [x, y]⟩
  | .alu111011 x y => ⟨.alu, 0, 0b111011, [x, y]⟩
  | .alu111100 x y => ⟨.alu, 0, 0b111100, [x, y]⟩
  | .alu111101 x y => ⟨.alu, 0, 0b111101, [x, y]⟩
  | .alu111110 x y => ⟨.alu, 0, 0b111110, [x, y]⟩
  | .alu111111 x y => ⟨.alu, 0, 0b111111, [x, y]⟩
  | .latchLoadRead input => ⟨.latchLoad, 0, 0, [signalWord input]⟩
  | .latchLoadWrite input => ⟨.latchLoad, 0, 1, [signalWord input]⟩
  | .registerLoadRead i input => ⟨.registerLoad, i.val, 0, [input]⟩
  | .registerLoadWrite i input => ⟨.registerLoad, i.val, 1, [input]⟩
  | .ram8LoadRead address input => ⟨.ram8Load, 0, controlWord (0b0#1 ++ address), [input]⟩
  | .ram8LoadWrite address input => ⟨.ram8Load, 0, controlWord (0b1#1 ++ address), [input]⟩
  | .ram64LoadRead address input => ⟨.ram64Load, 0, controlWord (0b0#1 ++ address), [input]⟩
  | .ram64LoadWrite address input => ⟨.ram64Load, 0, controlWord (0b1#1 ++ address), [input]⟩
  | .ram512LoadRead address input => ⟨.ram512Load, 0, controlWord (0b0#1 ++ address), [input]⟩
  | .ram512LoadWrite address input => ⟨.ram512Load, 0, controlWord (0b1#1 ++ address), [input]⟩
  | .ram4KLoadRead address input => ⟨.ram4KLoad, 0, controlWord (0b0#1 ++ address), [input]⟩
  | .ram4KLoadWrite address input => ⟨.ram4KLoad, 0, controlWord (0b1#1 ++ address), [input]⟩
  | .ram8KLoadRead address input => ⟨.ram8KLoad, 0, controlWord (0b0#1 ++ address), [input]⟩
  | .ram8KLoadWrite address input => ⟨.ram8KLoad, 0, controlWord (0b1#1 ++ address), [input]⟩
  | .ram16KLoadRead address input => ⟨.ram16KLoad, 0, controlWord (0b0#1 ++ address), [input]⟩
  | .ram16KLoadWrite address input => ⟨.ram16KLoad, 0, controlWord (0b1#1 ++ address), [input]⟩
  | .pcReset load inc input => ⟨.pcLoad, 0, controlWord (0b1#1 ++ BitVec.ofBool load ++ BitVec.ofBool inc), [input]⟩
  | .pcLoad inc input => ⟨.pcLoad, 0, controlWord (0b01#2 ++ BitVec.ofBool inc), [input]⟩
  | .pcInc input => ⟨.pcLoad, 0, controlWord 0b001#3, [input]⟩
  | .pcHold input => ⟨.pcLoad, 0, controlWord 0b000#3, [input]⟩

/-- Operand Words as bytes, low byte first. -/
def wordBytes : List Word → List Byte
  | [] => []
  | w :: ws => lowByte w :: highByte w :: wordBytes ws

/-- The bytes of a record. The unit number has one byte, so that records reach the first 256 Registers (log entry 2). -/
def Packed.bytes (p : Packed) : List Byte :=
  p.op.number :: BitVec.ofNat 8 p.unit :: lowByte p.control :: highByte p.control :: wordBytes p.data

/-- The encoder: the call record of an instruction. -/
def encode {nreg : Nat} (i : Instr nreg) : List Byte := i.packed.bytes

/-! ### One word of the opcode table -/

/-- The operations whose table rows fix bits of the control word, in the table's order, and then those whose rows fix none. -/
def tableOrder : List Operation :=
  [.alu, .latchLoad, .registerLoad, .ram8Load, .ram64Load, .ram512Load, .ram4KLoad, .ram8KLoad, .ram16KLoad, .pcLoad] ++
  Operation.byNumber

/-- The operation a bare control word is taken to belong to. The table's words do not name their operation (R80: the
operation is chosen by which one is called), and words of different formats coincide, so the first operation of
`tableOrder` whose control word takes `nbits` in whole bytes and has room for the word is chosen (log entry 2). -/
def tableOperation (nbits w : Nat) : Option Operation :=
  tableOrder.find? fun op => (op.format.width + 7) / 8 * 8 == nbits && decide (w < 2 ^ op.format.width)

/-- The record of a bare control word: its operation, unit 0, the word, and data operands of zeros. Where no operation
has such a word, a record that the decoder refuses. -/
def tableRecord (nbits w : Nat) : List Byte :=
  match tableOperation nbits w with
  | some op => op.number :: 0 :: lowByte (wordOf w) :: highByte (wordOf w) :: List.replicate (2 * op.dataCount) 0
  | none => [0xFF, 0, lowByte (wordOf w), highByte (wordOf w)]

/-- The instruction the decoder reads from a bare control word of the opcode table. -/
def decodeTableWord (nbits w : Nat) : Option Instr :=
  match decode (tableRecord nbits w) with
  | .ok (i, _) => some i
  | .error _ => none

end Sys2Proof
end

