-- ==== Sys2Proof/Machine/State.lean ====
section
/-! DEFINITION. The machine's state as plain data, why a step can stop, and the state after reset.

All persistent state of the hardware is Latches (`10_state.md` R22, R23), held here by what owns them: the stand-alone
Latch, the stand-alone Registers, the Program Counter's Register, and one instance of each RAM tier. Two further fields are
the model's own and no state of the hardware: `result` and `script` (log entries 1 and 2). -/

namespace Sys2Proof.Machine

/-- The contents of a RAM tier that differ from reset: pairs of a cell number and its Word, in rising order, none of them
all-false. A cell that is not listed holds `0x0000` (`10_state.md` R40, R41). The cell is the Word (R34); the hardware has
no bytes (`20_memory.md` R51). -/
abbrev Memory := List (Nat × Word)

/-- What a call returns (`30_encoding.md` R80, right of the arrow). -/
inductive CallResult where
  /-- No call has been made. -/
  | none
  /-- `out`, one Signal. -/
  | signal (out : Signal)
  /-- `(out0, out1)` of `dmux`. -/
  | dmux2 (out0 out1 : Signal)
  /-- `(out0, ..., out3)` of `dmux4way`. -/
  | dmux4 (outs : Vector Signal 4)
  /-- `(out0, ..., out7)` of `dmux8way`. -/
  | dmux8 (outs : Vector Signal 8)
  /-- `(sum, carry)` of the one-bit adders. -/
  | sumCarry (sum carry : Signal)
  /-- `out`, one Word. -/
  | word (out : Word)
  /-- `(out, zr, ng)` of `alu`; the flags leave the core here and are stored nowhere (`10_state.md` R29). -/
  | alu (out : Word) (zr ng : Signal)
deriving DecidableEq, Repr

/-- The machine, for `nreg` stand-alone Registers: the argument `NREG` of `00_scope.md` R7. The other argument, `TOP_RAM_TIER`,
needs no field, since every tier has its instance here: it says which of them is the aggregate's `ram` (`topRam`). -/
structure State (nreg : Nat := Config.nreg) where
  /-- The held bit `q` of the stand-alone Latch (R22). -/
  latch : Signal
  /-- The held Words of the stand-alone Registers `x[0]` to `x[NREG-1]` (R26). -/
  regs : Vector Word nreg
  /-- The held Word of the Program Counter's one Register `pc.r` (R27). -/
  pc : Word
  /-- A Ram8 instance (R32, R33). -/
  ram8 : Memory
  /-- A Ram64 instance. -/
  ram64 : Memory
  /-- A Ram512 instance. -/
  ram512 : Memory
  /-- A Ram4K instance. -/
  ram4K : Memory
  /-- A Ram8K instance. -/
  ram8K : Memory
  /-- A Ram16K instance; with the default `TOP_RAM_TIER` it is the aggregate's `ram` (R35). -/
  ram16K : Memory
  /-- The model's own: what the last call returned. No call reads it (R20; log entry 1). -/
  result : CallResult
  /-- The model's own: the calls the caller has still to make, as call records, the next one first (R375, `30_encoding.md`
  R100; log entry 2). No call reads or writes it. -/
  script : List Byte
deriving DecidableEq, Repr

/-- Faults: there are none. No operation raises an exception for any input (`60_exceptions.md` R330), "the fault type of
the model is empty" (D16), so this type has no constructor and nothing can raise one. -/
inductive Fault where
deriving DecidableEq, Repr

/-- Why a step has no meaning. -/
inductive Refusal where
  /-- Raised by an arm of `exec` for a row of the opcode table that has no meaning yet; no arm raises it. Safe. -/
  | notModelled (mnemonic : String)
  /-- Raised by `step` alone, when the next record of `script` is no call of the hardware: a caller contract violation that
  the model refuses at its boundary (R331, U1). The state is left as it was. Safe: nothing is claimed of such a call. -/
  | rejectedCall (reason : DecodeError)
deriving DecidableEq, Repr

/-- The outcomes of a step or a call. -/
abbrev Outcome (nreg : Nat := Config.nreg) := Host.Outcome (State nreg) Fault Refusal

/-- The construction state of a machine with `nreg` Registers, the hardware's only reset: every Latch `false` (`10_state.md` R40,
`70_reset_and_hazards.md` R360). No call has been made and none is pending (DESIGN CHOICE, log entries 1 and 2: the two fields
are the model's). -/
def State.construct (nreg : Nat) : State nreg where
  latch := false
  regs := Vector.replicate nreg 0x0000#16
  pc := 0x0000#16
  ram8 := []
  ram64 := []
  ram512 := []
  ram4K := []
  ram8K := []
  ram16K := []
  result := .none
  script := []

/-- The construction state for the default `NREG` (log entry 3). -/
def State.reset : State := State.construct Config.nreg

end Sys2Proof.Machine
end

