-- ==== Sys2Proof/Machine/Gates.lean ====
section
/-! DEFINITION. The combinational functions of Primitive Logic and of the adders, each composed from the one gate
`nandGate` (`40_primitive_logic.md` R110). How the scalar gates are made from it is the reference netlist of R128 (log
entry 5); the rest follows the pseudocode of each rule. -/

namespace Sys2Proof.Machine

/-- `collect f n` is the vector of `n` Signals whose index `i` is `f i` (`00_scope.md` R15). -/
def collect (f : Nat → Signal) : (n : Nat) → BitVec n
  | 0 => 0#0
  | n + 1 => BitVec.cons (f n) (collect f n)

/-- `for i in 0..15: out[i] = f i` (`40_primitive_logic.md` R118 to R121). -/
def wordOfSignals (f : Nat → Signal) : Word := collect f 16

/-! ### Scalar gates -/

/-- The single 2-input universal gate: false exactly when both inputs are true (R111). -/
def nandGate : Signal → Signal → Signal
  | true, true => false
  | true, false => true
  | false, true => true
  | false, false => true

/-- `not(a) = nand(a, a)` (R112, R128). -/
def notGate (a : Signal) : Signal := nandGate a a

/-- `and(a, b) = not(nand(a, b))` (R113, R128). -/
def andGate (a b : Signal) : Signal := notGate (nandGate a b)

/-- `or(a, b) = nand(not(a), not(b))` (R114, R128). -/
def orGate (a b : Signal) : Signal := nandGate (notGate a) (notGate b)

/-- `xor(a, b) = nand(nand(a, t), nand(b, t))` with `t = nand(a, b)` (R115, R128). -/
def xorGate (a b : Signal) : Signal :=
  let t := nandGate a b
  nandGate (nandGate a t) (nandGate b t)

/-- `a` when `sel` is false, `b` when it is true (R116, R128). -/
def muxGate (a b sel : Signal) : Signal :=
  nandGate (nandGate a (notGate sel)) (nandGate b sel)

/-- `out0 = and(in, not(sel))`, `out1 = and(in, sel)` (R117, R128). -/
def dmuxGate (input sel : Signal) : Signal × Signal :=
  (andGate input (notGate sel), andGate input sel)

/-! ### Word-wide lifts -/

/-- R118. -/
def not16 (a : Word) : Word := wordOfSignals fun i => notGate (a.getLsbD i)

/-- R119. -/
def and16 (a b : Word) : Word := wordOfSignals fun i => andGate (a.getLsbD i) (b.getLsbD i)

/-- R120. -/
def or16 (a b : Word) : Word := wordOfSignals fun i => orGate (a.getLsbD i) (b.getLsbD i)

/-- R121: one selector Signal shared by all 16 positions (D7). -/
def mux16 (a b : Word) (sel : Signal) : Word :=
  wordOfSignals fun i => muxGate (a.getLsbD i) (b.getLsbD i) sel

/-! ### Wide fan-in and fan-out -/

/-- The OR-reduction of 8 Signals, from index 0 up (R122). -/
def or8way (bits8 : BitVec 8) : Signal :=
  orGate (orGate (orGate (orGate (orGate (orGate (orGate (bits8.getLsbD 0) (bits8.getLsbD 1)) (bits8.getLsbD 2))
    (bits8.getLsbD 3)) (bits8.getLsbD 4)) (bits8.getLsbD 5)) (bits8.getLsbD 6)) (bits8.getLsbD 7)

/-- Selector bit 0 takes part in every pairwise selection first (R123). -/
def mux4way16 (a b c d : Word) (sel2 : BitVec 2) : Word :=
  let ab := mux16 a b (sel2.getLsbD 0)
  let cd := mux16 c d (sel2.getLsbD 0)
  mux16 ab cd (sel2.getLsbD 1)

/-- The same tree one level deeper (R124). -/
def mux8way16 (a b c d e f g h : Word) (sel3 : BitVec 3) : Word :=
  let ab := mux16 a b (sel3.getLsbD 0)
  let cd := mux16 c d (sel3.getLsbD 0)
  let ef := mux16 e f (sel3.getLsbD 0)
  let gh := mux16 g h (sel3.getLsbD 0)
  let abcd := mux16 ab cd (sel3.getLsbD 1)
  let efgh := mux16 ef gh (sel3.getLsbD 1)
  mux16 abcd efgh (sel3.getLsbD 2)

/-- R125, as the tree of `dmux`. -/
def dmux4way (input : Signal) (sel2 : BitVec 2) : Vector Signal 4 :=
  let top := dmuxGate input (sel2.getLsbD 1)
  let lo := dmuxGate top.1 (sel2.getLsbD 0)
  let hi := dmuxGate top.2 (sel2.getLsbD 0)
  #v[lo.1, lo.2, hi.1, hi.2]

/-- R126, as the tree of `dmux` over two `dmux4way`. -/
def dmux8way (input : Signal) (sel3 : BitVec 3) : Vector Signal 8 :=
  let top := dmuxGate input (sel3.getLsbD 2)
  let lo := dmux4way top.1 (sel3.extractLsb' 0 2)
  let hi := dmux4way top.2 (sel3.extractLsb' 0 2)
  #v[lo[0], lo[1], lo[2], lo[3], hi[0], hi[1], hi[2], hi[3]]

/-! ### Adders (`41_arithmetic.md`) -/

/-- `(sum, carry)` of two Signals (R141). -/
def halfAdder (a b : Signal) : Signal × Signal := (xorGate a b, andGate a b)

/-- `(sum, carry)` of three Signals: two chained half adders, the carry the `or` of both carries (R142). -/
def fullAdder (a b c : Signal) : Signal × Signal :=
  let first := halfAdder a b
  let second := halfAdder first.1 c
  (second.1, orGate first.2 second.2)

/-- The carry into position `i` of the ripple chain, carry-in false at bit 0 (R143). -/
def addCarry (a b : Word) : Nat → Signal
  | 0 => false
  | i + 1 => (fullAdder (a.getLsbD i) (b.getLsbD i) (addCarry a b i)).2

/-- Ripple-carry addition of 16 full adders; the carry out of bit 15 is discarded (R143, R148). -/
def add16 (a b : Word) : Word :=
  wordOfSignals fun i => (fullAdder (a.getLsbD i) (b.getLsbD i) (addCarry a b i)).1

/-- The carry into position `i` of the increment chain, seeded true (R144). -/
def incCarry (a : Word) : Nat → Signal
  | 0 => true
  | i + 1 => (halfAdder (a.getLsbD i) (incCarry a i)).2

/-- Increment by one as a chain of 16 half adders (R144). -/
def inc16 (a : Word) : Word :=
  wordOfSignals fun i => (halfAdder (a.getLsbD i) (incCarry a i)).1

end Sys2Proof.Machine
end

