-- ==== Sys2Proof/Machine/Flags.lean ====
section
/-! DEFINITION. The two flags. Both are Signals of one `alu` evaluation, computed from its own `out`, and are stored nowhere
(`10_state.md` R29). There is no carry, overflow, parity or half-carry flag (`42_alu.md` R234). -/

namespace Sys2Proof.Machine

/-- `zr`: the nor of the two 8-bit halves' or-reductions (R167). -/
def zeroFlag (out : Word) : Signal :=
  notGate (orGate (or8way (out.extractLsb' 0 8)) (or8way (out.extractLsb' 8 8)))

/-- `ng`: bit 15 of `out` (R168). -/
def negativeFlag (out : Word) : Signal := out.getLsbD 15

end Sys2Proof.Machine
end

