-- ==== Sys2Proof/Machine/Operands.lean ====
section
/-! DEFINITION. Operand assembly: the ALU's operand overrides (`42_alu.md` R161, R162) and the two parts of a RAM address
(`30_encoding.md` R86). There are no immediates, extensions, scalings or shifts in the core (R88). -/

namespace Sys2Proof.Machine

/-- `c ? p : q`, which is `mux(q, p, c)` (`00_scope.md` R14). -/
def choose16 (c : Signal) (p q : Word) : Word := mux16 q p c

/-- Stage 1: `x0 = zx ? 0 : x` (R161). -/
def zeroOverride (z : Signal) (v : Word) : Word := choose16 z 0x0000#16 v

/-- Stage 2: `x1 = nx ? not16(x0) : x0` (R162). -/
def complementOverride (n : Signal) (v : Word) : Word := choose16 n (not16 v) v

/-- An ALU operand after stages 1 and 2 (R166). -/
def effectiveOperand (z n : Signal) (v : Word) : Word := complementOverride n (zeroOverride z v)

/-- The local selector: the high `b` bits of a `w`-bit address, `fwd = w - b` bits above the forwarded part (R86). -/
def localSelector {w : Nat} (b fwd : Nat) (address : BitVec w) : BitVec b := address.extractLsb' fwd b

/-- The forwarded address: the low `fwd` bits, passed unchanged to every child (R86). -/
def forwardedAddress {w : Nat} (fwd : Nat) (address : BitVec w) : BitVec fwd := address.extractLsb' 0 fwd

end Sys2Proof.Machine
end

