-- ==== Sys2Proof/Machine/Ops.lean ====
section
/-! DEFINITION. The named operations over state that the meanings share.

Taking an exception and returning from one have no operation here, because the hardware has neither: no operation raises an
exception (`60_exceptions.md` R330), nothing is saved on any event and there is no handler to go to (R335), no trap return
(R336), no interrupt (R333), no mode (R338) and no system operation (R339). -/

namespace Sys2Proof.Machine

variable {nreg : Nat}

/-! ### Latch and Register (`43_latch_register.md`) -/

/-- `Latch.load(input, write)` on a Latch holding `q`: the bit held after the step, which is also what the call returns
(R240, R242). -/
def latchLoad (q input write : Signal) : Signal := if write then input else q

/-- `Register.load(input, write)` on a Register holding `held`: `Latch.load` on each of the 16 bits with the same `write`
(R241). The Word held after the step is also what the call returns (R242). -/
def registerLoad (held input : Word) (write : Signal) : Word :=
  wordOfSignals fun i => latchLoad (held.getLsbD i) (input.getLsbD i) write

/-! ### Memory (`10_state.md` R33) -/

/-- The Word of cell `a`; a cell that is not listed holds `0x0000` (R40, R41). -/
def readCell : Memory → Nat → Word
  | [], _ => 0x0000#16
  | (k, v) :: rest, a => if k = a then v else readCell rest a

/-- Cell `a` takes the Word `v`. The list stays in rising order and an all-false Word is not listed. -/
def writeCell : Memory → Nat → Word → Memory
  | [], a, v => if v = 0x0000#16 then [] else [(a, v)]
  | (k, x) :: rest, a, v =>
    if a < k then
      if v = 0x0000#16 then (k, x) :: rest else (a, v) :: (k, x) :: rest
    else if a = k then
      if v = 0x0000#16 then rest else (a, v) :: rest
    else (k, x) :: writeCell rest a v

/-- The canonical form from cell `lo` on: cell numbers rise, all are below `capacity`, and no listed Word is all-false. -/
def canonicalFrom (capacity : Nat) : Nat → Memory → Bool
  | _, [] => true
  | lo, (k, v) :: rest => decide (lo ≤ k) && decide (k < capacity) && decide (v ≠ 0x0000#16) && canonicalFrom capacity (k + 1) rest

/-- The memory of a RAM of the given capacity is in canonical form. -/
def memoryWf (capacity : Nat) (m : Memory) : Bool := canonicalFrom capacity 0 m

/-- One RAM `load` in the flat reading of `44_tiered_ram.md` R264: the addressed cell is a Register that is given `input` and
`write`; no other cell changes; what is returned is the Word the cell holds after the step. The recursive node of R260,
of which this is the consequence, is in `Machine/RamTree.lean`. -/
def ramLoad (m : Memory) (input : Word) (write : Signal) (address : Nat) : Word × Memory :=
  let held := registerLoad (readCell m address) input write
  (held, if write then writeCell m address held else m)

/-! ### Program Counter (`45_program_counter.md` R301) -/

/-- The three two-way selections, reset over load over increment over hold. -/
def pcStage (current input : Word) (load inc reset : Signal) : Word :=
  let incremented := add16 current 0x0001#16
  let stage0 := choose16 inc incremented current
  let stage1 := choose16 load input stage0
  choose16 reset 0x0000#16 stage1

/-- `ProgramCounter.load(input, load, inc, reset)` on a counter holding `current`: the Register is given the selected Word
with write-enable `load or inc or reset`. The Word held after the step is also what the call returns (R307). -/
def pcNext (current input : Word) (load inc reset : Signal) : Word :=
  registerLoad current (pcStage current input load inc reset) (orGate (orGate load inc) reset)

/-! ### Calls on the state -/

/-- The RAM instance of a tier (`10_state.md` R35). -/
def ramOf (t : Tier) (s : State nreg) : Memory :=
  match t with
  | .ram8 => s.ram8
  | .ram64 => s.ram64
  | .ram512 => s.ram512
  | .ram4K => s.ram4K
  | .ram8K => s.ram8K
  | .ram16K => s.ram16K

/-- The RAM instance of a tier is replaced. -/
def setRam (t : Tier) (m : Memory) (s : State nreg) : State nreg :=
  match t with
  | .ram8 => { s with ram8 := m }
  | .ram64 => { s with ram64 := m }
  | .ram512 => { s with ram512 := m }
  | .ram4K => { s with ram4K := m }
  | .ram8K => { s with ram8K := m }
  | .ram16K => { s with ram16K := m }

/-- The aggregate's `ram`: the instance of tier `TOP_RAM_TIER`, an argument (R7, R35). -/
def topRam (s : State nreg) (top : Tier := Config.topRamTier) : Memory := ramOf top s

/-- What a call returned is recorded; nothing else changes. -/
def answer (r : CallResult) (s : State nreg) : State nreg := { s with result := r }

/-- A pure operation: it returns `r` and touches no state (R20, R23). -/
def pureCall (r : CallResult) (s : State nreg) : Outcome nreg := .next (answer r s)

/-- `Latch.load` on the stand-alone Latch. -/
def latchCall (input write : Signal) (s : State nreg) : Outcome nreg :=
  let q := latchLoad s.latch input write
  .next (answer (.signal q) { s with latch := q })

/-- `Register.load` on stand-alone Register `i`. -/
def registerCall (i : Fin nreg) (input : Word) (write : Signal) (s : State nreg) : Outcome nreg :=
  let w := registerLoad s.regs[i] input write
  .next (answer (.word w) { s with regs := s.regs.set i w })

/-- The `load` of a RAM tier. -/
def ramCall (t : Tier) (input : Word) (write : Signal) (address : Nat) (s : State nreg) : Outcome nreg :=
  let out := ramLoad (ramOf t s) input write address
  .next (answer (.word out.1) (setRam t out.2 s))

/-- `ProgramCounter.load`. -/
def pcCall (input : Word) (load inc reset : Signal) (s : State nreg) : Outcome nreg :=
  let w := pcNext s.pc input load inc reset
  .next (answer (.word w) { s with pc := w })

/-! ### The caller's next call -/

/-- The next call the caller makes, with the records after it; `none` when it makes no further call (R375). -/
def nextCall (s : State nreg) : Option (Except DecodeError (Instr nreg × List Byte)) :=
  match s.script with
  | [] => none
  | b :: bs => some (decode (b :: bs) nreg)

/-- The same machine with the records after the call that is being made. -/
def withScript (script : List Byte) (s : State nreg) : State nreg := { s with script := script }

end Sys2Proof.Machine
end

