-- ==== Sys2Proof/Machine/Adders.lean ====
section
/-! DEFINITION. Meanings of the four adder operations (`41_arithmetic.md`): pure, total, no flag. -/

namespace Sys2Proof.Machine

variable {nreg : Nat}

/-- R141. -/
def execHalfAdder (a b : Signal) (s : State nreg) : Outcome nreg := pureCall (.sumCarry (halfAdder a b).1 (halfAdder a b).2) s

/-- R142. -/
def execFullAdder (a b c : Signal) (s : State nreg) : Outcome nreg := pureCall (.sumCarry (fullAdder a b c).1 (fullAdder a b c).2) s

/-- R143. -/
def execAdd16 (a b : Word) (s : State nreg) : Outcome nreg := pureCall (.word (add16 a b)) s

/-- R144. -/
def execInc16 (a : Word) (s : State nreg) : Outcome nreg := pureCall (.word (inc16 a)) s

end Sys2Proof.Machine
end

