-- ==== Sys2Proof/Machine/Alu.lean ====
section
/-! DEFINITION. The ALU (`42_alu.md`): its four stages, and the meaning of each of the 64 control combinations, which is the
stages under that combination's control lines and nothing else (R165). -/

namespace Sys2Proof.Machine

variable {nreg : Nat}

/-- The six control lines, in the source's order (`30_encoding.md` R81). -/
structure AluControl where
  zx : Signal
  nx : Signal
  zy : Signal
  ny : Signal
  f : Signal
  no : Signal
deriving DecidableEq, Repr

/-- Stage 3: `raw = f ? add16(x1, y1) : and16(x1, y1)` (R163). -/
def aluRaw (f : Signal) (x1 y1 : Word) : Word := choose16 f (add16 x1 y1) (and16 x1 y1)

/-- The composition of the four stages (R160 to R165); stage 4 is `out = no ? not16(raw) : raw` (R164). -/
def aluOut (c : AluControl) (x y : Word) : Word :=
  let x1 := effectiveOperand c.zx c.nx x
  let y1 := effectiveOperand c.zy c.ny y
  complementOverride c.no (aluRaw c.f x1 y1)

/-- `alu(x, y, zx, nx, zy, ny, f, no) -> (out, zr, ng)`: pure, no state (R160), both flags from `out` (R167, R168). -/
def aluCall (c : AluControl) (x y : Word) (s : State nreg) : Outcome nreg :=
  let out := aluOut c x y
  pureCall (.alu out (zeroFlag out) (negativeFlag out)) s

/-- R170, `AND`. -/
def execAlu000000 (x y : Word) (s : State nreg) : Outcome nreg :=
  aluCall ⟨false, false, false, false, false, false⟩ x y s

/-- R171. -/
def execAlu000001 (x y : Word) (s : State nreg) : Outcome nreg :=
  aluCall ⟨false, false, false, false, false, true⟩ x y s

/-- R172, `ADD`. -/
def execAlu000010 (x y : Word) (s : State nreg) : Outcome nreg :=
  aluCall ⟨false, false, false, false, true, false⟩ x y s

/-- R173. -/
def execAlu000011 (x y : Word) (s : State nreg) : Outcome nreg :=
  aluCall ⟨false, false, false, false, true, true⟩ x y s

/-- R174. -/
def execAlu000100 (x y : Word) (s : State nreg) : Outcome nreg :=
  aluCall ⟨false, false, false, true, false, false⟩ x y s

/-- R175. -/
def execAlu000101 (x y : Word) (s : State nreg) : Outcome nreg :=
  aluCall ⟨false, false, false, true, false, true⟩ x y s

/-- R176. -/
def execAlu000110 (x y : Word) (s : State nreg) : Outcome nreg :=
  aluCall ⟨false, false, false, true, true, false⟩ x y s

/-- R177, `SUB_YX`. -/
def execAlu000111 (x y : Word) (s : State nreg) : Outcome nreg :=
  aluCall ⟨false, false, false, true, true, true⟩ x y s

/-- R178. -/
def execAlu001000 (x y : Word) (s : State nreg) : Outcome nreg :=
  aluCall ⟨false, false, true, false, false, false⟩ x y s

/-- R179. -/
def execAlu001001 (x y : Word) (s : State nreg) : Outcome nreg :=
  aluCall ⟨false, false, true, false, false, true⟩ x y s

/-- R180. -/
def execAlu001010 (x y : Word) (s : State nreg) : Outcome nreg :=
  aluCall ⟨false, false, true, false, true, false⟩ x y s

/-- R181. -/
def execAlu001011 (x y : Word) (s : State nreg) : Outcome nreg :=
  aluCall ⟨false, false, true, false, true, true⟩ x y s

/-- R182, `PASS_X`. -/
def execAlu001100 (x y : Word) (s : State nreg) : Outcome nreg :=
  aluCall ⟨false, false, true, true, false, false⟩ x y s

/-- R183, `NOT_X`. -/
def execAlu001101 (x y : Word) (s : State nreg) : Outcome nreg :=
  aluCall ⟨false, false, true, true, false, true⟩ x y s

/-- R184, `DEC_X`. -/
def execAlu001110 (x y : Word) (s : State nreg) : Outcome nreg :=
  aluCall ⟨false, false, true, true, true, false⟩ x y s

/-- R185, `NEG_X`. -/
def execAlu001111 (x y : Word) (s : State nreg) : Outcome nreg :=
  aluCall ⟨false, false, true, true, true, true⟩ x y s

/-- R186. -/
def execAlu010000 (x y : Word) (s : State nreg) : Outcome nreg :=
  aluCall ⟨false, true, false, false, false, false⟩ x y s

/-- R187. -/
def execAlu010001 (x y : Word) (s : State nreg) : Outcome nreg :=
  aluCall ⟨false, true, false, false, false, true⟩ x y s

/-- R188. -/
def execAlu010010 (x y : Word) (s : State nreg) : Outcome nreg :=
  aluCall ⟨false, true, false, false, true, false⟩ x y s

/-- R189, `SUB_XY`. -/
def execAlu010011 (x y : Word) (s : State nreg) : Outcome nreg :=
  aluCall ⟨false, true, false, false, true, true⟩ x y s

/-- R190. -/
def execAlu010100 (x y : Word) (s : State nreg) : Outcome nreg :=
  aluCall ⟨false, true, false, true, false, false⟩ x y s

/-- R191, `OR`. -/
def execAlu010101 (x y : Word) (s : State nreg) : Outcome nreg :=
  aluCall ⟨false, true, false, true, false, true⟩ x y s

/-- R192. -/
def execAlu010110 (x y : Word) (s : State nreg) : Outcome nreg :=
  aluCall ⟨false, true, false, true, true, false⟩ x y s

/-- R193. -/
def execAlu010111 (x y : Word) (s : State nreg) : Outcome nreg :=
  aluCall ⟨false, true, false, true, true, true⟩ x y s

/-- R194. -/
def execAlu011000 (x y : Word) (s : State nreg) : Outcome nreg :=
  aluCall ⟨false, true, true, false, false, false⟩ x y s

/-- R195. -/
def execAlu011001 (x y : Word) (s : State nreg) : Outcome nreg :=
  aluCall ⟨false, true, true, false, false, true⟩ x y s

/-- R196. -/
def execAlu011010 (x y : Word) (s : State nreg) : Outcome nreg :=
  aluCall ⟨false, true, true, false, true, false⟩ x y s

/-- R197. -/
def execAlu011011 (x y : Word) (s : State nreg) : Outcome nreg :=
  aluCall ⟨false, true, true, false, true, true⟩ x y s

/-- R198. -/
def execAlu011100 (x y : Word) (s : State nreg) : Outcome nreg :=
  aluCall ⟨false, true, true, true, false, false⟩ x y s

/-- R199. -/
def execAlu011101 (x y : Word) (s : State nreg) : Outcome nreg :=
  aluCall ⟨false, true, true, true, false, true⟩ x y s

/-- R200. -/
def execAlu011110 (x y : Word) (s : State nreg) : Outcome nreg :=
  aluCall ⟨false, true, true, true, true, false⟩ x y s

/-- R201, `INC_X`. -/
def execAlu011111 (x y : Word) (s : State nreg) : Outcome nreg :=
  aluCall ⟨false, true, true, true, true, true⟩ x y s

/-- R202. -/
def execAlu100000 (x y : Word) (s : State nreg) : Outcome nreg :=
  aluCall ⟨true, false, false, false, false, false⟩ x y s

/-- R203. -/
def execAlu100001 (x y : Word) (s : State nreg) : Outcome nreg :=
  aluCall ⟨true, false, false, false, false, true⟩ x y s

/-- R204. -/
def execAlu100010 (x y : Word) (s : State nreg) : Outcome nreg :=
  aluCall ⟨true, false, false, false, true, false⟩ x y s

/-- R205. -/
def execAlu100011 (x y : Word) (s : State nreg) : Outcome nreg :=
  aluCall ⟨true, false, false, false, true, true⟩ x y s

/-- R206. -/
def execAlu100100 (x y : Word) (s : State nreg) : Outcome nreg :=
  aluCall ⟨true, false, false, true, false, false⟩ x y s

/-- R207. -/
def execAlu100101 (x y : Word) (s : State nreg) : Outcome nreg :=
  aluCall ⟨true, false, false, true, false, true⟩ x y s

/-- R208. -/
def execAlu100110 (x y : Word) (s : State nreg) : Outcome nreg :=
  aluCall ⟨true, false, false, true, true, false⟩ x y s

/-- R209. -/
def execAlu100111 (x y : Word) (s : State nreg) : Outcome nreg :=
  aluCall ⟨true, false, false, true, true, true⟩ x y s

/-- R210. -/
def execAlu101000 (x y : Word) (s : State nreg) : Outcome nreg :=
  aluCall ⟨true, false, true, false, false, false⟩ x y s

/-- R211. -/
def execAlu101001 (x y : Word) (s : State nreg) : Outcome nreg :=
  aluCall ⟨true, false, true, false, false, true⟩ x y s

/-- R212, `ZERO`. -/
def execAlu101010 (x y : Word) (s : State nreg) : Outcome nreg :=
  aluCall ⟨true, false, true, false, true, false⟩ x y s

/-- R213. -/
def execAlu101011 (x y : Word) (s : State nreg) : Outcome nreg :=
  aluCall ⟨true, false, true, false, true, true⟩ x y s

/-- R214. -/
def execAlu101100 (x y : Word) (s : State nreg) : Outcome nreg :=
  aluCall ⟨true, false, true, true, false, false⟩ x y s

/-- R215. -/
def execAlu101101 (x y : Word) (s : State nreg) : Outcome nreg :=
  aluCall ⟨true, false, true, true, false, true⟩ x y s

/-- R216. -/
def execAlu101110 (x y : Word) (s : State nreg) : Outcome nreg :=
  aluCall ⟨true, false, true, true, true, false⟩ x y s

/-- R217. -/
def execAlu101111 (x y : Word) (s : State nreg) : Outcome nreg :=
  aluCall ⟨true, false, true, true, true, true⟩ x y s

/-- R218, `PASS_Y`. -/
def execAlu110000 (x y : Word) (s : State nreg) : Outcome nreg :=
  aluCall ⟨true, true, false, false, false, false⟩ x y s

/-- R219, `NOT_Y`. -/
def execAlu110001 (x y : Word) (s : State nreg) : Outcome nreg :=
  aluCall ⟨true, true, false, false, false, true⟩ x y s

/-- R220, `DEC_Y`. -/
def execAlu110010 (x y : Word) (s : State nreg) : Outcome nreg :=
  aluCall ⟨true, true, false, false, true, false⟩ x y s

/-- R221, `NEG_Y`. -/
def execAlu110011 (x y : Word) (s : State nreg) : Outcome nreg :=
  aluCall ⟨true, true, false, false, true, true⟩ x y s

/-- R222. -/
def execAlu110100 (x y : Word) (s : State nreg) : Outcome nreg :=
  aluCall ⟨true, true, false, true, false, false⟩ x y s

/-- R223. -/
def execAlu110101 (x y : Word) (s : State nreg) : Outcome nreg :=
  aluCall ⟨true, true, false, true, false, true⟩ x y s

/-- R224. -/
def execAlu110110 (x y : Word) (s : State nreg) : Outcome nreg :=
  aluCall ⟨true, true, false, true, true, false⟩ x y s

/-- R225, `INC_Y`. -/
def execAlu110111 (x y : Word) (s : State nreg) : Outcome nreg :=
  aluCall ⟨true, true, false, true, true, true⟩ x y s

/-- R226. -/
def execAlu111000 (x y : Word) (s : State nreg) : Outcome nreg :=
  aluCall ⟨true, true, true, false, false, false⟩ x y s

/-- R227. -/
def execAlu111001 (x y : Word) (s : State nreg) : Outcome nreg :=
  aluCall ⟨true, true, true, false, false, true⟩ x y s

/-- R228, `NEG_ONE`. -/
def execAlu111010 (x y : Word) (s : State nreg) : Outcome nreg :=
  aluCall ⟨true, true, true, false, true, false⟩ x y s

/-- R229. -/
def execAlu111011 (x y : Word) (s : State nreg) : Outcome nreg :=
  aluCall ⟨true, true, true, false, true, true⟩ x y s

/-- R230. -/
def execAlu111100 (x y : Word) (s : State nreg) : Outcome nreg :=
  aluCall ⟨true, true, true, true, false, false⟩ x y s

/-- R231. -/
def execAlu111101 (x y : Word) (s : State nreg) : Outcome nreg :=
  aluCall ⟨true, true, true, true, false, true⟩ x y s

/-- R232. -/
def execAlu111110 (x y : Word) (s : State nreg) : Outcome nreg :=
  aluCall ⟨true, true, true, true, true, false⟩ x y s

/-- R233, `ONE`. -/
def execAlu111111 (x y : Word) (s : State nreg) : Outcome nreg :=
  aluCall ⟨true, true, true, true, true, true⟩ x y s

end Sys2Proof.Machine
end

