-- ==== Sys2Proof/Machine/LatchRegister.lean ====
section
/-! DEFINITION. Meanings of `Latch.load` and `Register.load` (`43_latch_register.md`), by their `write` line. -/

namespace Sys2Proof.Machine

variable {nreg : Nat}

/-- R240, R243, `write` false: the held bit is unchanged and returned; `input` is ignored. -/
def execLatchLoadRead (input : Signal) (s : State nreg) : Outcome nreg := latchCall input false s

/-- R240, `write` true: the held bit becomes `input`, which is returned in the same step. -/
def execLatchLoadWrite (input : Signal) (s : State nreg) : Outcome nreg := latchCall input true s

/-- R241, R243, `write` false. -/
def execRegisterLoadRead (i : Fin nreg) (input : Word) (s : State nreg) : Outcome nreg := registerCall i input false s

/-- R241, `write` true. -/
def execRegisterLoadWrite (i : Fin nreg) (input : Word) (s : State nreg) : Outcome nreg := registerCall i input true s

end Sys2Proof.Machine
end

