-- ==== Sys2Proof/Machine/PrimitiveLogic.lean ====
section
/-! DEFINITION. Meanings of the sixteen Primitive Logic operations (`40_primitive_logic.md`): pure, total, no flag. -/

namespace Sys2Proof.Machine

variable {nreg : Nat}

/-- R111. -/
def execNand (a b : Signal) (s : State nreg) : Outcome nreg := pureCall (.signal (nandGate a b)) s

/-- R112. -/
def execNot (a : Signal) (s : State nreg) : Outcome nreg := pureCall (.signal (notGate a)) s

/-- R113. -/
def execAnd (a b : Signal) (s : State nreg) : Outcome nreg := pureCall (.signal (andGate a b)) s

/-- R114. -/
def execOr (a b : Signal) (s : State nreg) : Outcome nreg := pureCall (.signal (orGate a b)) s

/-- R115. -/
def execXor (a b : Signal) (s : State nreg) : Outcome nreg := pureCall (.signal (xorGate a b)) s

/-- R116. -/
def execMux (a b sel : Signal) (s : State nreg) : Outcome nreg := pureCall (.signal (muxGate a b sel)) s

/-- R117. -/
def execDmux (input sel : Signal) (s : State nreg) : Outcome nreg := pureCall (.dmux2 (dmuxGate input sel).1 (dmuxGate input sel).2) s

/-- R118. -/
def execNot16 (a : Word) (s : State nreg) : Outcome nreg := pureCall (.word (not16 a)) s

/-- R119. -/
def execAnd16 (a b : Word) (s : State nreg) : Outcome nreg := pureCall (.word (and16 a b)) s

/-- R120. -/
def execOr16 (a b : Word) (s : State nreg) : Outcome nreg := pureCall (.word (or16 a b)) s

/-- R121. -/
def execMux16 (a b : Word) (sel : Signal) (s : State nreg) : Outcome nreg := pureCall (.word (mux16 a b sel)) s

/-- R122. -/
def execOr8way (bits8 : BitVec 8) (s : State nreg) : Outcome nreg := pureCall (.signal (or8way bits8)) s

/-- R123. -/
def execMux4way16 (a b c d : Word) (sel2 : BitVec 2) (s : State nreg) : Outcome nreg := pureCall (.word (mux4way16 a b c d sel2)) s

/-- R124. -/
def execMux8way16 (a b c d e f g h : Word) (sel3 : BitVec 3) (s : State nreg) : Outcome nreg := pureCall (.word (mux8way16 a b c d e f g h sel3)) s

/-- R125. -/
def execDmux4way (input : Signal) (sel2 : BitVec 2) (s : State nreg) : Outcome nreg := pureCall (.dmux4 (dmux4way input sel2)) s

/-- R126. -/
def execDmux8way (input : Signal) (sel3 : BitVec 3) (s : State nreg) : Outcome nreg := pureCall (.dmux8 (dmux8way input sel3)) s

end Sys2Proof.Machine
end

