-- ==== Sys2Proof/Machine/ProgramCounter.lean ====
section
/-! DEFINITION. Meanings of the four classes of `ProgramCounter.load` (`45_program_counter.md`). Each class calls the one
operation of R301 with the control lines its row fixes; lines a class does not look at are passed on as given. -/

namespace Sys2Proof.Machine

variable {nreg : Nat}

/-- R302, RESET: `reset` true, `load` and `inc` anything. -/
def execPcReset (load inc : Signal) (input : Word) (s : State nreg) : Outcome nreg := pcCall input load inc true s

/-- R303, LOAD: `reset` false, `load` true, `inc` anything. -/
def execPcLoad (inc : Signal) (input : Word) (s : State nreg) : Outcome nreg := pcCall input true inc false s

/-- R304, INC: `inc` alone. -/
def execPcInc (input : Word) (s : State nreg) : Outcome nreg := pcCall input false true false s

/-- R305, HOLD: no line. -/
def execPcHold (input : Word) (s : State nreg) : Outcome nreg := pcCall input false false false s

end Sys2Proof.Machine
end

