-- ==== Sys2Proof/Machine/TieredRam.lean ====
section
/-! DEFINITION. Meanings of the `load` of each RAM tier (`44_tiered_ram.md`), by its `write` line, in the flat reading that R264
allows. -/

namespace Sys2Proof.Machine

variable {nreg : Nat}

/-- R265, `write` false. -/
def execRam8LoadRead (address : BitVec 3) (input : Word) (s : State nreg) : Outcome nreg :=
  ramCall .ram8 input false address.toNat s

/-- R265, `write` true. -/
def execRam8LoadWrite (address : BitVec 3) (input : Word) (s : State nreg) : Outcome nreg :=
  ramCall .ram8 input true address.toNat s

/-- R266, `write` false. -/
def execRam64LoadRead (address : BitVec 6) (input : Word) (s : State nreg) : Outcome nreg :=
  ramCall .ram64 input false address.toNat s

/-- R266, `write` true. -/
def execRam64LoadWrite (address : BitVec 6) (input : Word) (s : State nreg) : Outcome nreg :=
  ramCall .ram64 input true address.toNat s

/-- R267, `write` false. -/
def execRam512LoadRead (address : BitVec 9) (input : Word) (s : State nreg) : Outcome nreg :=
  ramCall .ram512 input false address.toNat s

/-- R267, `write` true. -/
def execRam512LoadWrite (address : BitVec 9) (input : Word) (s : State nreg) : Outcome nreg :=
  ramCall .ram512 input true address.toNat s

/-- R268, `write` false. -/
def execRam4KLoadRead (address : BitVec 12) (input : Word) (s : State nreg) : Outcome nreg :=
  ramCall .ram4K input false address.toNat s

/-- R268, `write` true. -/
def execRam4KLoadWrite (address : BitVec 12) (input : Word) (s : State nreg) : Outcome nreg :=
  ramCall .ram4K input true address.toNat s

/-- R269, `write` false. -/
def execRam8KLoadRead (address : BitVec 13) (input : Word) (s : State nreg) : Outcome nreg :=
  ramCall .ram8K input false address.toNat s

/-- R269, `write` true. -/
def execRam8KLoadWrite (address : BitVec 13) (input : Word) (s : State nreg) : Outcome nreg :=
  ramCall .ram8K input true address.toNat s

/-- R270, `write` false. -/
def execRam16KLoadRead (address : BitVec 14) (input : Word) (s : State nreg) : Outcome nreg :=
  ramCall .ram16K input false address.toNat s

/-- R270, `write` true. -/
def execRam16KLoadWrite (address : BitVec 14) (input : Word) (s : State nreg) : Outcome nreg :=
  ramCall .ram16K input true address.toNat s

end Sys2Proof.Machine
end

