-- ==== Sys2Proof/Machine/Dispatch.lean ====
section
/-! DEFINITION. One arm per row of the opcode table, each a direct call of its meaning. -/

namespace Sys2Proof.Machine

/-- The effect of one call (`30_encoding.md` R89). -/
def exec (i : Instr) (s : State) : Host.Outcome State Fault Refusal :=
  match i with
  | .nand a b => Sys2Proof.Machine.execNand a b s
  | .not a => Sys2Proof.Machine.execNot a s
  | .and a b => Sys2Proof.Machine.execAnd a b s
  | .or a b => Sys2Proof.Machine.execOr a b s
  | .xor a b => Sys2Proof.Machine.execXor a b s
  | .mux a b sel => Sys2Proof.Machine.execMux a b sel s
  | .dmux input sel => Sys2Proof.Machine.execDmux input sel s
  | .not16 a => Sys2Proof.Machine.execNot16 a s
  | .and16 a b => Sys2Proof.Machine.execAnd16 a b s
  | .or16 a b => Sys2Proof.Machine.execOr16 a b s
  | .mux16 a b sel => Sys2Proof.Machine.execMux16 a b sel s
  | .or8way bits8 => Sys2Proof.Machine.execOr8way bits8 s
  | .mux4way16 a b c d sel2 => Sys2Proof.Machine.execMux4way16 a b c d sel2 s
  | .mux8way16 a b c d e f g h sel3 => Sys2Proof.Machine.execMux8way16 a b c d e f g h sel3 s
  | .dmux4way input sel2 => Sys2Proof.Machine.execDmux4way input sel2 s
  | .dmux8way input sel3 => Sys2Proof.Machine.execDmux8way input sel3 s
  | .halfAdder a b => Sys2Proof.Machine.execHalfAdder a b s
  | .fullAdder a b c => Sys2Proof.Machine.execFullAdder a b c s
  | .add16 a b => Sys2Proof.Machine.execAdd16 a b s
  | .inc16 a => Sys2Proof.Machine.execInc16 a s
  | .alu000000 x y => Sys2Proof.Machine.execAlu000000 x y s
  | .alu000001 x y => Sys2Proof.Machine.execAlu000001 x y s
  | .alu000010 x y => Sys2Proof.Machine.execAlu000010 x y s
  | .alu000011 x y => Sys2Proof.Machine.execAlu000011 x y s
  | .alu000100 x y => Sys2Proof.Machine.execAlu000100 x y s
  | .alu000101 x y => Sys2Proof.Machine.execAlu000101 x y s
  | .alu000110 x y => Sys2Proof.Machine.execAlu000110 x y s
  | .alu000111 x y => Sys2Proof.Machine.execAlu000111 x y s
  | .alu001000 x y => Sys2Proof.Machine.execAlu001000 x y s
  | .alu001001 x y => Sys2Proof.Machine.execAlu001001 x y s
  | .alu001010 x y => Sys2Proof.Machine.execAlu001010 x y s
  | .alu001011 x y => Sys2Proof.Machine.execAlu001011 x y s
  | .alu001100 x y => Sys2Proof.Machine.execAlu001100 x y s
  | .alu001101 x y => Sys2Proof.Machine.execAlu001101 x y s
  | .alu001110 x y => Sys2Proof.Machine.execAlu001110 x y s
  | .alu001111 x y => Sys2Proof.Machine.execAlu001111 x y s
  | .alu010000 x y => Sys2Proof.Machine.execAlu010000 x y s
  | .alu010001 x y => Sys2Proof.Machine.execAlu010001 x y s
  | .alu010010 x y => Sys2Proof.Machine.execAlu010010 x y s
  | .alu010011 x y => Sys2Proof.Machine.execAlu010011 x y s
  | .alu010100 x y => Sys2Proof.Machine.execAlu010100 x y s
  | .alu010101 x y => Sys2Proof.Machine.execAlu010101 x y s
  | .alu010110 x y => Sys2Proof.Machine.execAlu010110 x y s
  | .alu010111 x y => Sys2Proof.Machine.execAlu010111 x y s
  | .alu011000 x y => Sys2Proof.Machine.execAlu011000 x y s
  | .alu011001 x y => Sys2Proof.Machine.execAlu011001 x y s
  | .alu011010 x y => Sys2Proof.Machine.execAlu011010 x y s
  | .alu011011 x y => Sys2Proof.Machine.execAlu011011 x y s
  | .alu011100 x y => Sys2Proof.Machine.execAlu011100 x y s
  | .alu011101 x y => Sys2Proof.Machine.execAlu011101 x y s
  | .alu011110 x y => Sys2Proof.Machine.execAlu011110 x y s
  | .alu011111 x y => Sys2Proof.Machine.execAlu011111 x y s
  | .alu100000 x y => Sys2Proof.Machine.execAlu100000 x y s
  | .alu100001 x y => Sys2Proof.Machine.execAlu100001 x y s
  | .alu100010 x y => Sys2Proof.Machine.execAlu100010 x y s
  | .alu100011 x y => Sys2Proof.Machine.execAlu100011 x y s
  | .alu100100 x y => Sys2Proof.Machine.execAlu100100 x y s
  | .alu100101 x y => Sys2Proof.Machine.execAlu100101 x y s
  | .alu100110 x y => Sys2Proof.Machine.execAlu100110 x y s
  | .alu100111 x y => Sys2Proof.Machine.execAlu100111 x y s
  | .alu101000 x y => Sys2Proof.Machine.execAlu101000 x y s
  | .alu101001 x y => Sys2Proof.Machine.execAlu101001 x y s
  | .alu101010 x y => Sys2Proof.Machine.execAlu101010 x y s
  | .alu101011 x y => Sys2Proof.Machine.execAlu101011 x y s
  | .alu101100 x y => Sys2Proof.Machine.execAlu101100 x y s
  | .alu101101 x y => Sys2Proof.Machine.execAlu101101 x y s
  | .alu101110 x y => Sys2Proof.Machine.execAlu101110 x y s
  | .alu101111 x y => Sys2Proof.Machine.execAlu101111 x y s
  | .alu110000 x y => Sys2Proof.Machine.execAlu110000 x y s
  | .alu110001 x y => Sys2Proof.Machine.execAlu110001 x y s
  | .alu110010 x y => Sys2Proof.Machine.execAlu110010 x y s
  | .alu110011 x y => Sys2Proof.Machine.execAlu110011 x y s
  | .alu110100 x y => Sys2Proof.Machine.execAlu110100 x y s
  | .alu110101 x y => Sys2Proof.Machine.execAlu110101 x y s
  | .alu110110 x y => Sys2Proof.Machine.execAlu110110 x y s
  | .alu110111 x y => Sys2Proof.Machine.execAlu110111 x y s
  | .alu111000 x y => Sys2Proof.Machine.execAlu111000 x y s
  | .alu111001 x y => Sys2Proof.Machine.execAlu111001 x y s
  | .alu111010 x y => Sys2Proof.Machine.execAlu111010 x y s
  | .alu111011 x y => Sys2Proof.Machine.execAlu111011 x y s
  | .alu111100 x y => Sys2Proof.Machine.execAlu111100 x y s
  | .alu111101 x y => Sys2Proof.Machine.execAlu111101 x y s
  | .alu111110 x y => Sys2Proof.Machine.execAlu111110 x y s
  | .alu111111 x y => Sys2Proof.Machine.execAlu111111 x y s
  | .latchLoadRead input => Sys2Proof.Machine.execLatchLoadRead input s
  | .latchLoadWrite input => Sys2Proof.Machine.execLatchLoadWrite input s
  | .registerLoadRead unit input => Sys2Proof.Machine.execRegisterLoadRead unit input s
  | .registerLoadWrite unit input => Sys2Proof.Machine.execRegisterLoadWrite unit input s
  | .ram8LoadRead address input => Sys2Proof.Machine.execRam8LoadRead address input s
  | .ram8LoadWrite address input => Sys2Proof.Machine.execRam8LoadWrite address input s
  | .ram64LoadRead address input => Sys2Proof.Machine.execRam64LoadRead address input s
  | .ram64LoadWrite address input => Sys2Proof.Machine.execRam64LoadWrite address input s
  | .ram512LoadRead address input => Sys2Proof.Machine.execRam512LoadRead address input s
  | .ram512LoadWrite address input => Sys2Proof.Machine.execRam512LoadWrite address input s
  | .ram4KLoadRead address input => Sys2Proof.Machine.execRam4KLoadRead address input s
  | .ram4KLoadWrite address input => Sys2Proof.Machine.execRam4KLoadWrite address input s
  | .ram8KLoadRead address input => Sys2Proof.Machine.execRam8KLoadRead address input s
  | .ram8KLoadWrite address input => Sys2Proof.Machine.execRam8KLoadWrite address input s
  | .ram16KLoadRead address input => Sys2Proof.Machine.execRam16KLoadRead address input s
  | .ram16KLoadWrite address input => Sys2Proof.Machine.execRam16KLoadWrite address input s
  | .pcReset load inc input => Sys2Proof.Machine.execPcReset load inc input s
  | .pcLoad inc input => Sys2Proof.Machine.execPcLoad inc input s
  | .pcInc input => Sys2Proof.Machine.execPcInc input s
  | .pcHold input => Sys2Proof.Machine.execPcHold input s

end Sys2Proof.Machine
end

