-- ==== Sys2Proof/Machine/Step.lean ====
section
/-! DEFINITION. One step of the machine is one call (`00_scope.md` R8): the caller's next one. -/

namespace Sys2Proof.Machine

/-- The caller's next call is made. With no call left nothing is called and everything holds (`70_reset_and_hazards.md`
R366, R375). A record that is no call of the hardware is refused (`60_exceptions.md` R331, U1). -/
def step (s : State) : Host.Outcome State Fault Refusal :=
  match nextCall s with
  | none => .next s
  | some (.ok (i, rest)) => exec i (withScript rest s)
  | some (.error e) => .refused (.rejectedCall e)

/-- The machine whose caller makes next the call a bare control word of the opcode table stands for, and after it the calls
it was going to make (log entry 2). -/
def State.withFetchWord (s : State) (nbits w : Nat) : State :=
  withScript (tableRecord nbits w ++ s.script) s

end Sys2Proof.Machine
end

