-- ==== Sys2Proof/Machine/Netlist.lean ====
section
/-! DEFINITION. The reference netlists of `40_primitive_logic.md` R128 as data, so that their gate counts can be spoken of. They
are the spec's own choice and not the source's (D5, G3); nothing observable rests on them (log entry 5). -/

namespace Sys2Proof.Machine

/-- A netlist of `nand` gates. Wires `0` to `inputs - 1` are the inputs; gate number `g` reads two lower wires and drives wire
`inputs + g`. -/
structure Netlist where
  inputs : Nat
  gates : List (Nat × Nat)
  outputs : List Nat
deriving DecidableEq, Repr

/-- The wires after the gates, in order, each gate adding one. -/
def Netlist.drive : List (Nat × Nat) → List Signal → List Signal
  | [], wires => wires
  | (p, q) :: gates, wires =>
    Netlist.drive gates (wires ++ [nandGate (wires.getD p false) (wires.getD q false)])

/-- The outputs for given inputs. -/
def Netlist.eval (n : Netlist) (inputs : List Signal) : List Signal :=
  n.outputs.map fun o => (Netlist.drive n.gates inputs).getD o false

/-- The number of gates. -/
def Netlist.gateCount (n : Netlist) : Nat := n.gates.length

/-- `nand(a, a)`. -/
def notNetlist : Netlist := ⟨1, [(0, 0)], [1]⟩
/-- `not(nand(a, b))`. -/
def andNetlist : Netlist := ⟨2, [(0, 1), (2, 2)], [3]⟩
/-- `nand(not(a), not(b))`. -/
def orNetlist : Netlist := ⟨2, [(0, 0), (1, 1), (2, 3)], [4]⟩
/-- `nand(nand(a, t), nand(b, t))` with `t = nand(a, b)`. -/
def xorNetlist : Netlist := ⟨2, [(0, 1), (0, 2), (1, 2), (3, 4)], [5]⟩
/-- `nand(nand(a, not(sel)), nand(b, sel))`; wire 2 is `sel`. -/
def muxNetlist : Netlist := ⟨3, [(2, 2), (0, 3), (1, 2), (4, 5)], [6]⟩
/-- `(and(in, not(sel)), and(in, sel))`, the two `and` of two gates each; wire 1 is `sel`. -/
def dmuxNetlist : Netlist := ⟨2, [(1, 1), (0, 2), (3, 3), (0, 1), (5, 5)], [4, 6]⟩

end Sys2Proof.Machine
end

