-- ==== Sys2Proof/Machine/RamTree.lean ====
section
/-! DEFINITION. A RAM tier as the source composes it: a node owns its children, splits the address, fans the write line out
with a demultiplexer, calls every child, and fans the read back in with the matching multiplexer (`44_tiered_ram.md` R260 to
R270; `10_state.md` R31). `ramLoad` in `Machine/Ops.lean` is the flat reading of the same operation (R264); that the two agree
is stated in the obligations. -/

namespace Sys2Proof.Machine

/-! ### The six node types (R261, the Children column) -/

/-- 8 Registers. -/
abbrev Ram8Node := Vector Word 8
/-- 8 Ram8. -/
abbrev Ram64Node := Vector Ram8Node 8
/-- 8 Ram64. -/
abbrev Ram512Node := Vector Ram64Node 8
/-- 8 Ram512. -/
abbrev Ram4KNode := Vector Ram512Node 8
/-- 2 Ram4K. -/
abbrev Ram8KNode := Vector Ram4KNode 2
/-- 4 Ram4K, not 2 Ram8K (R261). -/
abbrev Ram16KNode := Vector Ram4KNode 4

/-! ### The generic node, for each fan-out (R260) -/

/-- A node of 8 children: `child` is a child's own `load` under its decoded write-enable. -/
def load8 {C : Type} (child : C → Signal → Word × C) (children : Vector C 8) (write : Signal) (sel : BitVec 3) :
    Word × Vector C 8 :=
  let we := dmux8way write sel
  let r (n : Fin 8) : Word × C := child children[n] we[n]
  (mux8way16 (r 0).1 (r 1).1 (r 2).1 (r 3).1 (r 4).1 (r 5).1 (r 6).1 (r 7).1 sel,
    #v[(r 0).2, (r 1).2, (r 2).2, (r 3).2, (r 4).2, (r 5).2, (r 6).2, (r 7).2])

/-- A node of 4 children. -/
def load4 {C : Type} (child : C → Signal → Word × C) (children : Vector C 4) (write : Signal) (sel : BitVec 2) :
    Word × Vector C 4 :=
  let we := dmux4way write sel
  let r (n : Fin 4) : Word × C := child children[n] we[n]
  (mux4way16 (r 0).1 (r 1).1 (r 2).1 (r 3).1 sel, #v[(r 0).2, (r 1).2, (r 2).2, (r 3).2])

/-- A node of 2 children. -/
def load2 {C : Type} (child : C → Signal → Word × C) (children : Vector C 2) (write : Signal) (sel : BitVec 1) :
    Word × Vector C 2 :=
  let we := dmuxGate write (sel.getLsbD 0)
  let r0 := child children[0] we.1
  let r1 := child children[1] we.2
  (mux16 r0.1 r1.1 (sel.getLsbD 0), #v[r0.2, r1.2])

/-! ### One `load` per tier (R265 to R270) -/

/-- R265: a Register takes no address. -/
def ram8NodeLoad (node : Ram8Node) (input : Word) (write : Signal) (address : BitVec 3) : Word × Ram8Node :=
  load8 (fun held we => (registerLoad held input we, registerLoad held input we)) node write (localSelector 3 0 address)

/-- R266. -/
def ram64NodeLoad (node : Ram64Node) (input : Word) (write : Signal) (address : BitVec 6) : Word × Ram64Node :=
  load8 (fun child we => ram8NodeLoad child input we (forwardedAddress 3 address)) node write (localSelector 3 3 address)

/-- R267. -/
def ram512NodeLoad (node : Ram512Node) (input : Word) (write : Signal) (address : BitVec 9) : Word × Ram512Node :=
  load8 (fun child we => ram64NodeLoad child input we (forwardedAddress 6 address)) node write (localSelector 3 6 address)

/-- R268. -/
def ram4KNodeLoad (node : Ram4KNode) (input : Word) (write : Signal) (address : BitVec 12) : Word × Ram4KNode :=
  load8 (fun child we => ram512NodeLoad child input we (forwardedAddress 9 address)) node write (localSelector 3 9 address)

/-- R269. -/
def ram8KNodeLoad (node : Ram8KNode) (input : Word) (write : Signal) (address : BitVec 13) : Word × Ram8KNode :=
  load2 (fun child we => ram4KNodeLoad child input we (forwardedAddress 12 address)) node write (localSelector 1 12 address)

/-- R270. -/
def ram16KNodeLoad (node : Ram16KNode) (input : Word) (write : Signal) (address : BitVec 14) : Word × Ram16KNode :=
  load4 (fun child we => ram4KNodeLoad child input we (forwardedAddress 12 address)) node write (localSelector 2 12 address)

/-! ### The leaf Register an address reaches (`10_state.md` R33, `30_encoding.md` R87) -/

/-- The child a selector names, 0-indexed (R85). -/
def childAt {C : Type} {b n : Nat} (children : Vector C n) (sel : BitVec b) (h : 2 ^ b = n) : C :=
  children[sel.toNat]'(h ▸ sel.isLt)

/-- The Word of leaf `address` of a Ram8. -/
def ram8Cell (node : Ram8Node) (address : BitVec 3) : Word :=
  childAt node (localSelector 3 0 address) rfl
/-- The Word of leaf `address` of a Ram64. -/
def ram64Cell (node : Ram64Node) (address : BitVec 6) : Word :=
  ram8Cell (childAt node (localSelector 3 3 address) rfl) (forwardedAddress 3 address)
/-- The Word of leaf `address` of a Ram512. -/
def ram512Cell (node : Ram512Node) (address : BitVec 9) : Word :=
  ram64Cell (childAt node (localSelector 3 6 address) rfl) (forwardedAddress 6 address)
/-- The Word of leaf `address` of a Ram4K. -/
def ram4KCell (node : Ram4KNode) (address : BitVec 12) : Word :=
  ram512Cell (childAt node (localSelector 3 9 address) rfl) (forwardedAddress 9 address)
/-- The Word of leaf `address` of a Ram8K. -/
def ram8KCell (node : Ram8KNode) (address : BitVec 13) : Word :=
  ram4KCell (childAt node (localSelector 1 12 address) rfl) (forwardedAddress 12 address)
/-- The Word of leaf `address` of a Ram16K. -/
def ram16KCell (node : Ram16KNode) (address : BitVec 14) : Word :=
  ram4KCell (childAt node (localSelector 2 12 address) rfl) (forwardedAddress 12 address)

/-! ### The construction state of a node (R40): every leaf `0x0000` -/

/-- A fresh Ram8. -/
def ram8NodeReset : Ram8Node := Vector.replicate 8 0x0000#16
/-- A fresh Ram64. -/
def ram64NodeReset : Ram64Node := Vector.replicate 8 ram8NodeReset
/-- A fresh Ram512. -/
def ram512NodeReset : Ram512Node := Vector.replicate 8 ram64NodeReset
/-- A fresh Ram4K. -/
def ram4KNodeReset : Ram4KNode := Vector.replicate 8 ram512NodeReset
/-- A fresh Ram8K. -/
def ram8KNodeReset : Ram8KNode := Vector.replicate 2 ram4KNodeReset
/-- A fresh Ram16K. -/
def ram16KNodeReset : Ram16KNode := Vector.replicate 4 ram4KNodeReset

/-! ### The write-enable line of every leaf, in the order of the leaves (R263) -/

/-- The eight lines of a Ram8. -/
def ram8Enables (write : Signal) (address : BitVec 3) : List Signal :=
  (dmux8way write (localSelector 3 0 address)).toList
/-- The 64 lines of a Ram64. -/
def ram64Enables (write : Signal) (address : BitVec 6) : List Signal :=
  (dmux8way write (localSelector 3 3 address)).toList.flatMap fun we => ram8Enables we (forwardedAddress 3 address)
/-- The 512 lines of a Ram512. -/
def ram512Enables (write : Signal) (address : BitVec 9) : List Signal :=
  (dmux8way write (localSelector 3 6 address)).toList.flatMap fun we => ram64Enables we (forwardedAddress 6 address)
/-- The 4096 lines of a Ram4K. -/
def ram4KEnables (write : Signal) (address : BitVec 12) : List Signal :=
  (dmux8way write (localSelector 3 9 address)).toList.flatMap fun we => ram512Enables we (forwardedAddress 9 address)
/-- The 8192 lines of a Ram8K. -/
def ram8KEnables (write : Signal) (address : BitVec 13) : List Signal :=
  let we := dmuxGate write ((localSelector 1 12 address).getLsbD 0)
  [we.1, we.2].flatMap fun we => ram4KEnables we (forwardedAddress 12 address)
/-- The 16384 lines of a Ram16K. -/
def ram16KEnables (write : Signal) (address : BitVec 14) : List Signal :=
  (dmux4way write (localSelector 2 12 address)).toList.flatMap fun we => ram4KEnables we (forwardedAddress 12 address)

end Sys2Proof.Machine
end

