-- ==== Sys2Proof/Machine/AnyCensus.lean ====
section
/-! DEFINITION. The machine for any value of the argument `NREG` (`00_scope.md` R7, `92_eei_decisions.md` D11). The meanings take
it as they stand; `exec`, `step` and `Sys2Proof.core`, whose types the interface fixes, are this machine at the default
(log entry 3). -/

namespace Sys2Proof.Machine

/-- The meaning of each call, by the same meanings as `exec`. -/
def execAt {nreg : Nat} (i : Instr nreg) (s : State nreg) : Outcome nreg :=
  match i with
  | .nand a b => execNand a b s
  | .not a => execNot a s
  | .and a b => execAnd a b s
  | .or a b => execOr a b s
  | .xor a b => execXor a b s
  | .mux a b sel => execMux a b sel s
  | .dmux input sel => execDmux input sel s
  | .not16 a => execNot16 a s
  | .and16 a b => execAnd16 a b s
  | .or16 a b => execOr16 a b s
  | .mux16 a b sel => execMux16 a b sel s
  | .or8way bits8 => execOr8way bits8 s
  | .mux4way16 a b c d sel2 => execMux4way16 a b c d sel2 s
  | .mux8way16 a b c d e f g h sel3 => execMux8way16 a b c d e f g h sel3 s
  | .dmux4way input sel2 => execDmux4way input sel2 s
  | .dmux8way input sel3 => execDmux8way input sel3 s
  | .halfAdder a b => execHalfAdder a b s
  | .fullAdder a b c => execFullAdder a b c s
  | .add16 a b => execAdd16 a b s
  | .inc16 a => execInc16 a s
  | .alu000000 x y => execAlu000000 x y s
  | .alu000001 x y => execAlu000001 x y s
  | .alu000010 x y => execAlu000010 x y s
  | .alu000011 x y => execAlu000011 x y s
  | .alu000100 x y => execAlu000100 x y s
  | .alu000101 x y => execAlu000101 x y s
  | .alu000110 x y => execAlu000110 x y s
  | .alu000111 x y => execAlu000111 x y s
  | .alu001000 x y => execAlu001000 x y s
  | .alu001001 x y => execAlu001001 x y s
  | .alu001010 x y => execAlu001010 x y s
  | .alu001011 x y => execAlu001011 x y s
  | .alu001100 x y => execAlu001100 x y s
  | .alu001101 x y => execAlu001101 x y s
  | .alu001110 x y => execAlu001110 x y s
  | .alu001111 x y => execAlu001111 x y s
  | .alu010000 x y => execAlu010000 x y s
  | .alu010001 x y => execAlu010001 x y s
  | .alu010010 x y => execAlu010010 x y s
  | .alu010011 x y => execAlu010011 x y s
  | .alu010100 x y => execAlu010100 x y s
  | .alu010101 x y => execAlu010101 x y s
  | .alu010110 x y => execAlu010110 x y s
  | .alu010111 x y => execAlu010111 x y s
  | .alu011000 x y => execAlu011000 x y s
  | .alu011001 x y => execAlu011001 x y s
  | .alu011010 x y => execAlu011010 x y s
  | .alu011011 x y => execAlu011011 x y s
  | .alu011100 x y => execAlu011100 x y s
  | .alu011101 x y => execAlu011101 x y s
  | .alu011110 x y => execAlu011110 x y s
  | .alu011111 x y => execAlu011111 x y s
  | .alu100000 x y => execAlu100000 x y s
  | .alu100001 x y => execAlu100001 x y s
  | .alu100010 x y => execAlu100010 x y s
  | .alu100011 x y => execAlu100011 x y s
  | .alu100100 x y => execAlu100100 x y s
  | .alu100101 x y => execAlu100101 x y s
  | .alu100110 x y => execAlu100110 x y s
  | .alu100111 x y => execAlu100111 x y s
  | .alu101000 x y => execAlu101000 x y s
  | .alu101001 x y => execAlu101001 x y s
  | .alu101010 x y => execAlu101010 x y s
  | .alu101011 x y => execAlu101011 x y s
  | .alu101100 x y => execAlu101100 x y s
  | .alu101101 x y => execAlu101101 x y s
  | .alu101110 x y => execAlu101110 x y s
  | .alu101111 x y => execAlu101111 x y s
  | .alu110000 x y => execAlu110000 x y s
  | .alu110001 x y => execAlu110001 x y s
  | .alu110010 x y => execAlu110010 x y s
  | .alu110011 x y => execAlu110011 x y s
  | .alu110100 x y => execAlu110100 x y s
  | .alu110101 x y => execAlu110101 x y s
  | .alu110110 x y => execAlu110110 x y s
  | .alu110111 x y => execAlu110111 x y s
  | .alu111000 x y => execAlu111000 x y s
  | .alu111001 x y => execAlu111001 x y s
  | .alu111010 x y => execAlu111010 x y s
  | .alu111011 x y => execAlu111011 x y s
  | .alu111100 x y => execAlu111100 x y s
  | .alu111101 x y => execAlu111101 x y s
  | .alu111110 x y => execAlu111110 x y s
  | .alu111111 x y => execAlu111111 x y s
  | .latchLoadRead input => execLatchLoadRead input s
  | .latchLoadWrite input => execLatchLoadWrite input s
  | .registerLoadRead unit input => execRegisterLoadRead unit input s
  | .registerLoadWrite unit input => execRegisterLoadWrite unit input s
  | .ram8LoadRead address input => execRam8LoadRead address input s
  | .ram8LoadWrite address input => execRam8LoadWrite address input s
  | .ram64LoadRead address input => execRam64LoadRead address input s
  | .ram64LoadWrite address input => execRam64LoadWrite address input s
  | .ram512LoadRead address input => execRam512LoadRead address input s
  | .ram512LoadWrite address input => execRam512LoadWrite address input s
  | .ram4KLoadRead address input => execRam4KLoadRead address input s
  | .ram4KLoadWrite address input => execRam4KLoadWrite address input s
  | .ram8KLoadRead address input => execRam8KLoadRead address input s
  | .ram8KLoadWrite address input => execRam8KLoadWrite address input s
  | .ram16KLoadRead address input => execRam16KLoadRead address input s
  | .ram16KLoadWrite address input => execRam16KLoadWrite address input s
  | .pcReset load inc input => execPcReset load inc input s
  | .pcLoad inc input => execPcLoad inc input s
  | .pcInc input => execPcInc input s
  | .pcHold input => execPcHold input s

/-- One step: the caller's next call is made. With no call left nothing is called and everything holds (R366, R375). A record that
is no call of the hardware is refused (R331, U1). -/
def stepAt {nreg : Nat} (s : State nreg) : Outcome nreg :=
  match nextCall s with
  | none => .next s
  | some (.ok (i, rest)) => execAt i (withScript rest s)
  | some (.error e) => .refused (.rejectedCall e)

/-- The machine whose caller owns `nreg` Registers. -/
def machineAt (nreg : Nat) : Host.Core where
  State := State nreg
  Fault := Fault
  Refusal := Refusal
  step := stepAt
  reset := State.construct nreg

end Sys2Proof.Machine
end

