-- ==== Sys2Proof/Machine/Script.lean ====
section
/-! DEFINITION. Sequences of calls, and the stimulus script of `30_encoding.md` R100 and R101: numbered cycles, each a list of
calls whose arguments are literals or values that earlier calls returned. Names and their uses belong to the caller, not to the
core, which has no wire between its parts (`10_state.md` R35); this file is the caller's side of the interface. -/

namespace Sys2Proof.Machine

variable {nreg : Nat}

/-- Calls made one after another (`20_memory.md` R61: in the order the caller issues them). -/
def runCalls : List (Instr nreg) → State nreg → Outcome nreg
  | [], s => .next s
  | i :: is, s =>
    match execAt i s with
    | .next t => runCalls is t
    | .fault r => .fault r
    | .refused r => .refused r

/-! ### Pseudo-operations (R101) -/

/-- The read or write row of a RAM tier. -/
def ramRow (t : Tier) (write : Signal) (address : BitVec t.addressWidth) (input : Word) : Instr nreg :=
  match t, address with
  | .ram8, a => Instr.ofWrite write (.ram8LoadRead a input) (.ram8LoadWrite a input)
  | .ram64, a => Instr.ofWrite write (.ram64LoadRead a input) (.ram64LoadWrite a input)
  | .ram512, a => Instr.ofWrite write (.ram512LoadRead a input) (.ram512LoadWrite a input)
  | .ram4K, a => Instr.ofWrite write (.ram4KLoadRead a input) (.ram4KLoadWrite a input)
  | .ram8K, a => Instr.ofWrite write (.ram8KLoadRead a input) (.ram8KLoadWrite a input)
  | .ram16K, a => Instr.ofWrite write (.ram16KLoadRead a input) (.ram16KLoadWrite a input)

/-- `ram.read(a)` is `ram.load(0x0000, 0, a)`; `top` is the argument `TOP_RAM_TIER`. -/
def pseudoRamRead (top : Tier) (a : BitVec top.addressWidth) : Instr nreg := ramRow top false a 0x0000#16
/-- `ram.write(a, v)` is `ram.load(v, 1, a)`. -/
def pseudoRamWrite (top : Tier) (a : BitVec top.addressWidth) (v : Word) : Instr nreg := ramRow top true a v
/-- `x[i].read()` is `x[i].load(0x0000, 0)`. -/
def pseudoRegisterRead (i : Fin nreg) : Instr nreg := .registerLoadRead i 0x0000#16
/-- `x[i].write(v)` is `x[i].load(v, 1)`. -/
def pseudoRegisterWrite (i : Fin nreg) (v : Word) : Instr nreg := .registerLoadWrite i v
/-- `pc.hold()` is `pc.load(0x0000, 0, 0, 0)`. -/
def pseudoPcHold : Instr nreg := Instr.ofPc 0x0000#16 false false false
/-- `pc.inc()` is `pc.load(0x0000, 0, 1, 0)`. -/
def pseudoPcInc : Instr nreg := Instr.ofPc 0x0000#16 false true false
/-- `pc.jump(v)` is `pc.load(v, 1, 0, 0)`. -/
def pseudoPcJump (v : Word) : Instr nreg := Instr.ofPc v true false false
/-- `pc.reset()` is `pc.load(0x0000, 0, 0, 1)`. -/
def pseudoPcReset : Instr nreg := Instr.ofPc 0x0000#16 false false true

/-! ### Scripts with bound names (R100) -/

/-- An argument of a scripted call: a literal, or output number `port` of the call whose result was bound to `name`. -/
inductive Argument where
  | literal (n : Nat)
  | output (name port : Nat)
deriving DecidableEq, Repr

/-- One scripted call: `name = op(args)` when `bind` is given. Names are numbers. -/
structure ScriptCall where
  bind : Option Nat
  op : Operation
  unit : Nat
  args : List Argument
deriving DecidableEq, Repr

/-- A script: one list of calls per cycle. -/
abbrev Script := List (List ScriptCall)

/-- The results bound so far, the latest first. -/
abbrev Bindings := List (Nat × CallResult)

/-- Why a script does not run: it breaks a rule of use of the caller's. -/
inductive ScriptError where
  /-- A name that no earlier call bound, or an output it does not have. -/
  | unbound
  /-- A call outside its operation's domain (U1). -/
  | rejected (reason : DecodeError)
  /-- A second call on one owner of state in one cycle (`70_reset_and_hazards.md` R365). -/
  | calledTwice
  /-- A call did not answer a next state. No call does this (R330). -/
  | stopped
deriving DecidableEq, Repr

/-- The outputs of a call in the order its signature lists them, as numbers: a Signal 0 or 1, a Word its unsigned reading
(DESIGN CHOICE, log entry 15). -/
def resultPorts : CallResult → List Nat
  | .none => []
  | .signal out => [signalNat out]
  | .dmux2 out0 out1 => [signalNat out0, signalNat out1]
  | .dmux4 outs => outs.toList.map signalNat
  | .dmux8 outs => outs.toList.map signalNat
  | .sumCarry sum carry => [signalNat sum, signalNat carry]
  | .word out => [uint out]
  | .alu out zr ng => [uint out, signalNat zr, signalNat ng]

/-- The value of an argument. DESIGN CHOICE (log entry 15): R100 does not say whether a bound Word may stand for a Signal, selector,
address or control argument, or a bound Signal for a Word. An output is taken as the number its bits stand for; it is accepted
wherever that number fits the argument's width, and the call is refused as out of its domain where it does not. -/
def resolveArgument (env : Bindings) : Argument → Option Nat
  | .literal n => some n
  | .output name port => ((env.lookup name).map resultPorts).bind fun ports => ports[port]?

/-- The values of all arguments. -/
def resolveArguments (env : Bindings) : List Argument → Option (List Nat)
  | [] => some []
  | a :: as =>
    match resolveArgument env a, resolveArguments env as with
    | some n, some ns => some (n :: ns)
    | _, _ => none

/-- The instruction a scripted call makes. -/
def ScriptCall.toInstr (c : ScriptCall) (env : Bindings) (nreg : Nat := Config.nreg) : Except ScriptError (Instr nreg) :=
  match resolveArguments env c.args with
  | none => .error .unbound
  | some args =>
    match (Call.mk c.op c.unit args).toInstr nreg with
    | .ok i => .ok i
    | .error e => .error (.rejected e)

/-- An instruction as a caller writes it, every argument in the source's order (`30_encoding.md` R80). -/
def Instr.toCall (i : Instr nreg) : Call :=
  ⟨i.packed.op, i.packed.unit, i.packed.op.format.unpack i.packed.control.toNat (i.packed.data.map BitVec.toNat)⟩

/-- An instruction as a scripted call with literal arguments that binds nothing. -/
def literalCall (i : Instr nreg) : ScriptCall :=
  ⟨none, (Instr.toCall i).op, (Instr.toCall i).unit, (Instr.toCall i).args.map .literal⟩

/-- The bindings after a call that returned `r`. -/
def bindResult (bind : Option Nat) (r : CallResult) (env : Bindings) : Bindings :=
  match bind with
  | some name => (name, r) :: env
  | none => env

/-- The calls of one cycle in the order written; `called` lists the owners of state already called in it. -/
def runCycle : List ScriptCall → List (Component nreg) → Bindings → State nreg → Except ScriptError (Bindings × State nreg)
  | [], _, env, s => .ok (env, s)
  | c :: cs, called, env, s =>
    match c.toInstr env nreg with
    | .error e => .error e
    | .ok i =>
      if called.any fun d => i.component? == some d then .error .calledTwice
      else
        match execAt i s with
        | .next t => runCycle cs (i.component?.toList ++ called) (bindResult c.bind t.result env) t
        | _ => .error .stopped

/-- The cycles of a script in order. -/
def runScript : Script → Bindings → State nreg → Except ScriptError (Bindings × State nreg)
  | [], env, s => .ok (env, s)
  | cycle :: cycles, env, s =>
    match runCycle cycle [] env s with
    | .error e => .error e
    | .ok (env', t) => runScript cycles env' t

end Sys2Proof.Machine
end

