-- ==== Sys2Proof/Safety.lean ====
section
/-! DEFINITION. The terms claims are stated in: the invariant of the state, and what it means that a part of the state is the
same in two states. There is no error state to stay clear of: the hardware has no fault (`60_exceptions.md` R330). -/

namespace Sys2Proof.Machine

variable {nreg : Nat}

/-- Every RAM instance is in canonical form: its cells lie inside the tier's capacity, in rising order, none all-false. -/
def StateWf (s : State nreg) : Prop := ∀ t : Tier, memoryWf t.capacity (ramOf t s) = true

/-- A part of the state is the same in both (`20_memory.md` R66). -/
def SameAt (c : Component nreg) (s t : State nreg) : Prop :=
  match c with
  | .latch => s.latch = t.latch
  | .register i => s.regs[i] = t.regs[i]
  | .ram r => ramOf r s = ramOf r t
  | .pc => s.pc = t.pc

/-- All state of the hardware is the same in both; only the model's own fields may differ. -/
def SameCore (s t : State nreg) : Prop := ∀ c : Component nreg, SameAt c s t

/-- The Word a RAM cell holds, for a typed address (`00_scope.md` R14, `MemRead`). -/
def memRead (t : Tier) (address : BitVec t.addressWidth) (s : State nreg) : Word := readCell (ramOf t s) address.toNat

/-! ### Rows of the ALU (`42_alu.md` R170 to R233) -/

/-- The six control lines of a packed control word (`30_encoding.md` R81). -/
def aluControlOf (c : BitVec 6) : AluControl :=
  ⟨c.getLsbD 5, c.getLsbD 4, c.getLsbD 3, c.getLsbD 2, c.getLsbD 1, c.getLsbD 0⟩

/-- What one of the rules R170 to R233 says of its row: the row's control word is `c`; under those lines the stages give `x1`,
`y1`, `raw` and `out`; the call returns `out` with `zr` true exactly when `out` is `0x0000` and `ng` its bit 15; nothing else of
the state changes and nothing is raised. -/
def AluRow (row : Word → Word → Instr) (c : BitVec 6) (x1 y1 : Word → Word) (raw out : Word → Word → Word) : Prop :=
  ∀ (x y : Word) (s : State),
    (row x y).packed = ⟨.alu, 0, controlWord c, [x, y]⟩ ∧
    effectiveOperand (aluControlOf c).zx (aluControlOf c).nx x = x1 x ∧
    effectiveOperand (aluControlOf c).zy (aluControlOf c).ny y = y1 y ∧
    aluRaw (aluControlOf c).f (x1 x) (y1 y) = raw x y ∧
    aluOut (aluControlOf c) x y = out x y ∧
    exec (row x y) s =
      .next { s with result := .alu (out x y) (decide (out x y = 0x0000#16)) ((out x y).getLsbD 15) }

/-! ### Rows of the RAM tiers (`44_tiered_ram.md` R264 to R270) -/

/-- A read row: the cell's Word is returned and no state changes. -/
def RamReadRow (t : Tier) {w : Nat} (row : BitVec w → Word → Instr) : Prop :=
  w = t.addressWidth ∧ ∀ (a : BitVec w) (input : Word) (s : State),
    exec (row a input) s = .next { s with result := .word (readCell (ramOf t s) a.toNat) }

/-- A write row, in a state whose memories are canonical: `input` is returned, the addressed cell holds `input` after the call,
every other cell of the tier and every other part of the state is as it was. -/
def RamWriteRow (t : Tier) {w : Nat} (row : BitVec w → Word → Instr) : Prop :=
  w = t.addressWidth ∧ ∀ (a : BitVec w) (input : Word) (s : State), StateWf s →
    ∃ s' : State, exec (row a input) s = .next s' ∧ s'.result = .word input ∧
      readCell (ramOf t s') a.toNat = input ∧
      (∀ j : Nat, j ≠ a.toNat → readCell (ramOf t s') j = readCell (ramOf t s) j) ∧
      (∀ c : Component, c ≠ .ram t → SameAt c s s') ∧ s'.script = s.script

/-- The tier's memory holds what the leaves of a recursive node hold (`10_state.md` R33). -/
def Represents (t : Tier) {w : Nat} {Node : Type} (cell : Node → BitVec w → Word) (s : State nreg) (node : Node) : Prop :=
  ∀ a : BitVec w, readCell (ramOf t s) a.toNat = cell node a

/-- The two rows of a tier do what the recursive node's `load` does (R260): they return the same Word, and the memory after
them holds what the leaves of the node after it hold. -/
def RamRefines (t : Tier) {w : Nat} {Node : Type} (load : Node → Word → Signal → BitVec w → Word × Node)
    (cell : Node → BitVec w → Word) (readRow writeRow : BitVec w → Word → Instr) : Prop :=
  ∀ (s : State) (node : Node) (a : BitVec w) (input : Word), StateWf s → Represents t cell s node →
    (∃ s' : State, exec (readRow a input) s = .next s' ∧ s'.result = .word (load node input false a).1 ∧
      Represents t cell s' (load node input false a).2) ∧
    (∃ s' : State, exec (writeRow a input) s = .next s' ∧ s'.result = .word (load node input true a).1 ∧
      Represents t cell s' (load node input true a).2)

/-- The write-enable lines of a tier's leaves, when the leaf `address` alone is given `write` (R263). -/
def oneHotLines (capacity : Nat) (write : Signal) (address : Nat) : List Signal :=
  (List.range capacity).map fun n => write && decide (n = address)

/-! ### Histories (`20_memory.md` R61) -/

/-- What a call writes to a RAM: the tier, the cell and the Word. -/
def ramWriteOf : Instr nreg → Option (Tier × Nat × Word)
  | .ram8LoadWrite a v => some (.ram8, a.toNat, v)
  | .ram64LoadWrite a v => some (.ram64, a.toNat, v)
  | .ram512LoadWrite a v => some (.ram512, a.toNat, v)
  | .ram4KLoadWrite a v => some (.ram4K, a.toNat, v)
  | .ram8KLoadWrite a v => some (.ram8K, a.toNat, v)
  | .ram16KLoadWrite a v => some (.ram16K, a.toNat, v)
  | _ => none

/-- The `input` of the latest of the calls that writes cell `a` of tier `t`, `0x0000` if there is none. -/
def lastWrite (t : Tier) (a : Nat) (calls : List (Instr nreg)) : Word :=
  calls.foldl (fun held i =>
    match ramWriteOf i with
    | some (u, b, v) => if u = t ∧ b = a then v else held
    | none => held) 0x0000#16

/-- The rows with no write or control signal true: the reads, and the Program Counter's HOLD (`43_latch_register.md` R245). -/
def isHold : Instr nreg → Bool
  | .latchLoadRead _ | .registerLoadRead _ _ => true
  | .ram8LoadRead _ _ | .ram64LoadRead _ _ | .ram512LoadRead _ _ => true
  | .ram4KLoadRead _ _ | .ram8KLoadRead _ _ | .ram16KLoadRead _ _ => true
  | .pcHold _ => true
  | _ => false

end Sys2Proof.Machine
end

