-- ==== Sys2Proof/Certificates/Slice0/Obligations.lean ====
section
/-! DEFINITION. The statements for the provers, from the spec's numbered rules. `AluRow`, `RamReadRow`, `RamWriteRow`,
`RamRefines` and the other terms they use are in `Safety.lean`. -/

open Sys2Proof Sys2Proof.Machine

/-- Nand, not, and, or, xor return what their truth tables say (R111, R112, R113, R114, R115). -/
def Obligations.ScalarGatesFollowTheirTables : Prop :=
  ∀ (a b : Signal) (s : State),
    exec (.nand a b) s = .next { s with result := .signal (!(a && b)) } ∧
    exec (.not a) s = .next { s with result := .signal (!a) } ∧
    exec (.and a b) s = .next { s with result := .signal (a && b) } ∧
    exec (.or a b) s = .next { s with result := .signal (a || b) } ∧
    exec (.xor a b) s = .next { s with result := .signal (a != b) }

/-- Mux returns the input its selector names, dmux sends its input to the output its selector names (R116, R117). -/
def Obligations.MuxSelectsAndDmuxDistributes : Prop :=
  ∀ (a b input sel : Signal) (s : State),
    exec (.mux a b sel) s = .next { s with result := .signal (if sel then b else a) } ∧
    exec (.dmux input sel) s =
      .next { s with result := if sel then .dmux2 false input else .dmux2 input false }

/-- Not16, and16, or16, mux16 apply the scalar function at each of the 16 positions (R118, R119, R120, R121). -/
def Obligations.WordLiftsActPositionByPosition : Prop :=
  ∀ (a b : Word) (sel : Signal) (s : State), ∃ n d o m : Word,
    exec (.not16 a) s = .next { s with result := .word n } ∧
    exec (.and16 a b) s = .next { s with result := .word d } ∧
    exec (.or16 a b) s = .next { s with result := .word o } ∧
    exec (.mux16 a b sel) s = .next { s with result := .word m } ∧
    (∀ i : Nat, i < 16 →
      n.getLsbD i = !(a.getLsbD i) ∧
      d.getLsbD i = (a.getLsbD i && b.getLsbD i) ∧
      o.getLsbD i = (a.getLsbD i || b.getLsbD i) ∧
      m.getLsbD i = if sel then b.getLsbD i else a.getLsbD i) ∧
    uint n = 65535 - uint a ∧ sint n = -sint a - 1

/-- Or8way is true exactly when one of its 8 inputs is (R122). -/
def Obligations.OrOfEightIsTrueWhenAnyInputIs : Prop :=
  ∀ (bits8 : BitVec 8) (s : State),
    exec (.or8way bits8) s = .next { s with result := .signal (decide (∃ i : Fin 8, bits8.getLsbD i = true)) }

/-- Mux4way16 and mux8way16 return the input whose index is the selector (R123, R124). -/
def Obligations.SelectionTreesPickTheNamedInput : Prop :=
  ∀ (a b c d e f g h : Word) (sel2 : BitVec 2) (sel3 : BitVec 3) (s : State),
    exec (.mux4way16 a b c d sel2) s =
      .next { s with result := .word ([a, b, c, d].getD sel2.toNat 0x0000#16) } ∧
    exec (.mux8way16 a b c d e f g h sel3) s =
      .next { s with result := .word ([a, b, c, d, e, f, g, h].getD sel3.toNat 0x0000#16) }

/-- Dmux4way and dmux8way put their input on the one output the selector names (R125, R126). -/
def Obligations.DistributionTreesAreOneHot : Prop :=
  ∀ (input : Signal) (sel2 : BitVec 2) (sel3 : BitVec 3) (s : State),
    exec (.dmux4way input sel2) s =
      .next { s with result := .dmux4 (Vector.ofFn fun n : Fin 4 => input && decide (sel2.toNat = n.val)) } ∧
    exec (.dmux8way input sel3) s =
      .next { s with result := .dmux8 (Vector.ofFn fun n : Fin 8 => input && decide (sel3.toNat = n.val)) }

/-- Selecting with the selector that distributed gives the value back, for 2, 4 and 8 ways (rests on R127). -/
def Obligations.DistributionIsUndoneBySelection : Prop :=
  ∀ (w : Word) (sel : Signal) (sel2 : BitVec 2) (sel3 : BitVec 3),
    (let o0 := wordOfSignals fun i => (dmuxGate (w.getLsbD i) sel).1
     let o1 := wordOfSignals fun i => (dmuxGate (w.getLsbD i) sel).2
     mux16 o0 o1 sel = w ∧ or16 o0 o1 = w) ∧
    (let o := fun n : Fin 4 => wordOfSignals fun i => (dmux4way (w.getLsbD i) sel2)[n]
     mux4way16 (o 0) (o 1) (o 2) (o 3) sel2 = w ∧ or16 (or16 (o 0) (o 1)) (or16 (o 2) (o 3)) = w) ∧
    (let o := fun n : Fin 8 => wordOfSignals fun i => (dmux8way (w.getLsbD i) sel3)[n]
     mux8way16 (o 0) (o 1) (o 2) (o 3) (o 4) (o 5) (o 6) (o 7) sel3 = w ∧
     or16 (or16 (or16 (o 0) (o 1)) (or16 (o 2) (o 3))) (or16 (or16 (o 4) (o 5)) (or16 (o 6) (o 7))) = w)

/-- The reference netlists compute the gates they stand for, with the counts the spec gives (rests on R128,
92_eei_decisions.md D5; a choice of the model's, log entry 5). -/
def Obligations.ReferenceNetlistsComputeTheirGates : Prop :=
  (∀ a b c : Signal,
    notNetlist.eval [a] = [notGate a] ∧ andNetlist.eval [a, b] = [andGate a b] ∧
    orNetlist.eval [a, b] = [orGate a b] ∧ xorNetlist.eval [a, b] = [xorGate a b] ∧
    muxNetlist.eval [a, b, c] = [muxGate a b c] ∧
    dmuxNetlist.eval [a, b] = [(dmuxGate a b).1, (dmuxGate a b).2]) ∧
  notNetlist.gateCount = 1 ∧ andNetlist.gateCount = 2 ∧ orNetlist.gateCount = 3 ∧ xorNetlist.gateCount = 4 ∧
  muxNetlist.gateCount = 4 ∧ dmuxNetlist.gateCount = 5

/-- Half_adder and full_adder: sum + 2*carry is the number of true inputs (R141, R142). -/
def Obligations.OneBitAddersCountTheirInputs : Prop :=
  ∀ (a b c : Signal) (s : State),
    (∃ sum carry : Signal, exec (.halfAdder a b) s = .next { s with result := .sumCarry sum carry } ∧
      sum = (a != b) ∧ carry = (a && b) ∧ signalNat a + signalNat b = signalNat sum + 2 * signalNat carry) ∧
    (∃ sum carry : Signal, exec (.fullAdder a b c) s = .next { s with result := .sumCarry sum carry } ∧
      sum = ((a != b) != c) ∧ carry = ((a && b) || (a && c) || (b && c)) ∧
      signalNat a + signalNat b + signalNat c = signalNat sum + 2 * signalNat carry)

/-- Add16 returns the sum of its operands modulo 2^16, bit by bit from a chain of full adders (R143). -/
def Obligations.RippleAdderAddsModulo65536 : Prop :=
  ∀ (a b : Word) (s : State),
    ∃ (out : Word) (c : Nat → Signal), exec (.add16 a b) s = .next { s with result := .word out } ∧
      uint out = (uint a + uint b) % 65536 ∧ c 0 = false ∧
      ∀ i : Nat, i < 16 → (out.getLsbD i, c (i + 1)) = fullAdder (a.getLsbD i) (b.getLsbD i) (c i)

/-- Inc16 returns a + 1 modulo 2^16, the Word add16(a, 1) returns (R144). -/
def Obligations.IncrementerAddsOne : Prop :=
  ∀ (a : Word) (s : State),
    ∃ (out : Word) (c : Nat → Signal), exec (.inc16 a) s = .next { s with result := .word out } ∧
      uint out = (uint a + 1) % 65536 ∧ c 0 = true ∧
      (∀ i : Nat, i < 16 → (out.getLsbD i, c (i + 1)) = halfAdder (a.getLsbD i) (c i)) ∧
      exec (.add16 a 0x0001#16) s = exec (.inc16 a) s

/-- Add16 is right for both readings modulo 65536, commutative, associative, with identity and inverses (R145). -/
def Obligations.AdditionWrapsAndIsAGroup : Prop :=
  ∀ a b c : Word,
    uint (add16 a b) = (uint a + uint b) % 65536 ∧
    (sint (add16 a b)) % 65536 = (sint a + sint b) % 65536 ∧
    add16 a b = add16 b a ∧ add16 (add16 a b) c = add16 a (add16 b c) ∧ add16 a 0x0000#16 = a ∧
    add16 a (add16 (not16 a) 0x0001#16) = 0x0000#16

/-- The identities that give negation, subtraction and decrement from not16 and add16 (R146). -/
def Obligations.NegationAndSubtractionAreCompositions : Prop :=
  (∀ a b : Word,
    uint (not16 a) = 65535 - uint a ∧ sint (not16 a) = -sint a - 1 ∧
    -a = add16 (not16 a) 0x0001#16 ∧ -a = not16 (add16 a 0xFFFF#16) ∧
    a - b = not16 (add16 (not16 a) b) ∧ a - 0x0001#16 = add16 a 0xFFFF#16) ∧
  not16 (add16 0x0000#16 0xFFFF#16) = 0x0000#16 ∧ not16 (add16 0x8000#16 0xFFFF#16) = 0x8000#16 ∧
  not16 (add16 (not16 0x0000#16) 0x0001#16) = 0xFFFF#16

/-- For every control combination the ALU returns the four stages' composition (R160, R161, R162, R163, R164, R165).
-/
def Obligations.AluIsTheCompositionOfItsFourStages : Prop :=
  ∀ (zx nx zy ny f no : Signal) (x y : Word) (s : State),
    let x0 := if zx then 0x0000#16 else x
    let y0 := if zy then 0x0000#16 else y
    let x1 := if nx then ~~~x0 else x0
    let y1 := if ny then ~~~y0 else y0
    let raw := if f then x1 + y1 else x1 &&& y1
    let out := if no then ~~~raw else raw
    exec (Instr.ofAlu zx nx zy ny f no x y) s =
      .next { s with result := .alu out (decide (out = 0x0000#16)) (out.getLsbD 15) }

/-- Zr and ng are the zero and the sign of the returned Word, for every control combination (R167, R168, R234). -/
def Obligations.FlagsReadTheReturnedWord : Prop :=
  ∀ (zx nx zy ny f no : Signal) (x y : Word) (s : State), ∃ (out : Word) (zr ng : Signal),
    exec (Instr.ofAlu zx nx zy ny f no x y) s = .next { s with result := .alu out zr ng } ∧
    (zr = true ↔ ∀ i : Nat, i < 16 → out.getLsbD i = false) ∧ ng = out.getLsbD 15 ∧
    (zr = true ↔ sint out = 0) ∧ (ng = true ↔ sint out < 0) ∧
    ((zr = false ∧ ng = false) ↔ 0 < sint out) ∧ ¬(zr = true ∧ ng = true)

/-- Exchanging the x and y paths changes no output; each operand becomes one of four values (R166). -/
def Obligations.AluOperandPathsAreAlike : Prop :=
  (∀ (zx nx zy ny f no : Signal) (x y : Word) (s : State),
    exec (Instr.ofAlu zx nx zy ny f no x y) s = exec (Instr.ofAlu zy ny zx nx f no y x) s) ∧
  ∀ v : Word,
    effectiveOperand false false v = v ∧ effectiveOperand false true v = ~~~v ∧
    effectiveOperand true false v = 0x0000#16 ∧ effectiveOperand true true v = 0xFFFF#16 ∧
    sint (~~~v) = -sint v - 1 ∧ sint 0x0000#16 = 0 ∧ sint 0xFFFF#16 = -1

/-- The eight ALU rows with zx=0 nx=0 zy=0 return the functions the spec derives for them (R170, R171, R172, R173,
R174, R175, R176, R177). -/
def Obligations.AluRowsOfXAndY : Prop :=
  AluRow .alu000000 0b000000#6 (fun x => x) (fun y => y)
    (fun x y => x &&& y) (fun x y => x &&& y) ∧
  AluRow .alu000001 0b000001#6 (fun x => x) (fun y => y)
    (fun x y => x &&& y) (fun x y => ~~~(x &&& y)) ∧
  AluRow .alu000010 0b000010#6 (fun x => x) (fun y => y)
    (fun x y => x + y) (fun x y => x + y) ∧
  AluRow .alu000011 0b000011#6 (fun x => x) (fun y => y)
    (fun x y => x + y) (fun x y => -x - y - 1#16) ∧
  AluRow .alu000100 0b000100#6 (fun x => x) (fun y => ~~~y)
    (fun x y => x &&& ~~~y) (fun x y => x &&& ~~~y) ∧
  AluRow .alu000101 0b000101#6 (fun x => x) (fun y => ~~~y)
    (fun x y => x &&& ~~~y) (fun x y => ~~~x ||| y) ∧
  AluRow .alu000110 0b000110#6 (fun x => x) (fun y => ~~~y)
    (fun x y => x + ~~~y) (fun x y => x - y - 1#16) ∧
  AluRow .alu000111 0b000111#6 (fun x => x) (fun y => ~~~y)
    (fun x y => x + ~~~y) (fun x y => y - x)

/-- The eight ALU rows with zx=0 nx=0 zy=1 return the functions the spec derives for them (R178, R179, R180, R181,
R182, R183, R184, R185). -/
def Obligations.AluRowsOfXAndConstantY : Prop :=
  AluRow .alu001000 0b001000#6 (fun x => x) (fun _ => 0x0000#16)
    (fun x _ => x &&& 0x0000#16) (fun _ _ => 0x0000#16) ∧
  AluRow .alu001001 0b001001#6 (fun x => x) (fun _ => 0x0000#16)
    (fun x _ => x &&& 0x0000#16) (fun _ _ => 0xFFFF#16) ∧
  AluRow .alu001010 0b001010#6 (fun x => x) (fun _ => 0x0000#16)
    (fun x _ => x + 0x0000#16) (fun x _ => x) ∧
  AluRow .alu001011 0b001011#6 (fun x => x) (fun _ => 0x0000#16)
    (fun x _ => x + 0x0000#16) (fun x _ => ~~~x) ∧
  AluRow .alu001100 0b001100#6 (fun x => x) (fun _ => 0xFFFF#16)
    (fun x _ => x &&& 0xFFFF#16) (fun x _ => x) ∧
  AluRow .alu001101 0b001101#6 (fun x => x) (fun _ => 0xFFFF#16)
    (fun x _ => x &&& 0xFFFF#16) (fun x _ => ~~~x) ∧
  AluRow .alu001110 0b001110#6 (fun x => x) (fun _ => 0xFFFF#16)
    (fun x _ => x + 0xFFFF#16) (fun x _ => x - 1#16) ∧
  AluRow .alu001111 0b001111#6 (fun x => x) (fun _ => 0xFFFF#16)
    (fun x _ => x + 0xFFFF#16) (fun x _ => -x)

/-- The eight ALU rows with zx=0 nx=1 zy=0 return the functions the spec derives for them (R186, R187, R188, R189,
R190, R191, R192, R193). -/
def Obligations.AluRowsOfNotXAndY : Prop :=
  AluRow .alu010000 0b010000#6 (fun x => ~~~x) (fun y => y)
    (fun x y => ~~~x &&& y) (fun x y => ~~~x &&& y) ∧
  AluRow .alu010001 0b010001#6 (fun x => ~~~x) (fun y => y)
    (fun x y => ~~~x &&& y) (fun x y => x ||| ~~~y) ∧
  AluRow .alu010010 0b010010#6 (fun x => ~~~x) (fun y => y)
    (fun x y => ~~~x + y) (fun x y => y - x - 1#16) ∧
  AluRow .alu010011 0b010011#6 (fun x => ~~~x) (fun y => y)
    (fun x y => ~~~x + y) (fun x y => x - y) ∧
  AluRow .alu010100 0b010100#6 (fun x => ~~~x) (fun y => ~~~y)
    (fun x y => ~~~x &&& ~~~y) (fun x y => ~~~x &&& ~~~y) ∧
  AluRow .alu010101 0b010101#6 (fun x => ~~~x) (fun y => ~~~y)
    (fun x y => ~~~x &&& ~~~y) (fun x y => x ||| y) ∧
  AluRow .alu010110 0b010110#6 (fun x => ~~~x) (fun y => ~~~y)
    (fun x y => ~~~x + ~~~y) (fun x y => -x - y - 2#16) ∧
  AluRow .alu010111 0b010111#6 (fun x => ~~~x) (fun y => ~~~y)
    (fun x y => ~~~x + ~~~y) (fun x y => x + y + 1#16)

/-- The eight ALU rows with zx=0 nx=1 zy=1 return the functions the spec derives for them (R194, R195, R196, R197,
R198, R199, R200, R201). -/
def Obligations.AluRowsOfNotXAndConstantY : Prop :=
  AluRow .alu011000 0b011000#6 (fun x => ~~~x) (fun _ => 0x0000#16)
    (fun x _ => ~~~x &&& 0x0000#16) (fun _ _ => 0x0000#16) ∧
  AluRow .alu011001 0b011001#6 (fun x => ~~~x) (fun _ => 0x0000#16)
    (fun x _ => ~~~x &&& 0x0000#16) (fun _ _ => 0xFFFF#16) ∧
  AluRow .alu011010 0b011010#6 (fun x => ~~~x) (fun _ => 0x0000#16)
    (fun x _ => ~~~x + 0x0000#16) (fun x _ => ~~~x) ∧
  AluRow .alu011011 0b011011#6 (fun x => ~~~x) (fun _ => 0x0000#16)
    (fun x _ => ~~~x + 0x0000#16) (fun x _ => x) ∧
  AluRow .alu011100 0b011100#6 (fun x => ~~~x) (fun _ => 0xFFFF#16)
    (fun x _ => ~~~x &&& 0xFFFF#16) (fun x _ => ~~~x) ∧
  AluRow .alu011101 0b011101#6 (fun x => ~~~x) (fun _ => 0xFFFF#16)
    (fun x _ => ~~~x &&& 0xFFFF#16) (fun x _ => x) ∧
  AluRow .alu011110 0b011110#6 (fun x => ~~~x) (fun _ => 0xFFFF#16)
    (fun x _ => ~~~x + 0xFFFF#16) (fun x _ => -x - 2#16) ∧
  AluRow .alu011111 0b011111#6 (fun x => ~~~x) (fun _ => 0xFFFF#16)
    (fun x _ => ~~~x + 0xFFFF#16) (fun x _ => x + 1#16)

/-- The eight ALU rows with zx=1 nx=0 zy=0 return the functions the spec derives for them (R202, R203, R204, R205,
R206, R207, R208, R209). -/
def Obligations.AluRowsOfZeroAndY : Prop :=
  AluRow .alu100000 0b100000#6 (fun _ => 0x0000#16) (fun y => y)
    (fun _ y => 0x0000#16 &&& y) (fun _ _ => 0x0000#16) ∧
  AluRow .alu100001 0b100001#6 (fun _ => 0x0000#16) (fun y => y)
    (fun _ y => 0x0000#16 &&& y) (fun _ _ => 0xFFFF#16) ∧
  AluRow .alu100010 0b100010#6 (fun _ => 0x0000#16) (fun y => y)
    (fun _ y => 0x0000#16 + y) (fun _ y => y) ∧
  AluRow .alu100011 0b100011#6 (fun _ => 0x0000#16) (fun y => y)
    (fun _ y => 0x0000#16 + y) (fun _ y => ~~~y) ∧
  AluRow .alu100100 0b100100#6 (fun _ => 0x0000#16) (fun y => ~~~y)
    (fun _ y => 0x0000#16 &&& ~~~y) (fun _ _ => 0x0000#16) ∧
  AluRow .alu100101 0b100101#6 (fun _ => 0x0000#16) (fun y => ~~~y)
    (fun _ y => 0x0000#16 &&& ~~~y) (fun _ _ => 0xFFFF#16) ∧
  AluRow .alu100110 0b100110#6 (fun _ => 0x0000#16) (fun y => ~~~y)
    (fun _ y => 0x0000#16 + ~~~y) (fun _ y => ~~~y) ∧
  AluRow .alu100111 0b100111#6 (fun _ => 0x0000#16) (fun y => ~~~y)
    (fun _ y => 0x0000#16 + ~~~y) (fun _ y => y)

/-- The eight ALU rows with zx=1 nx=0 zy=1 return the functions the spec derives for them (R210, R211, R212, R213,
R214, R215, R216, R217). -/
def Obligations.AluRowsOfZeroAndConstantY : Prop :=
  AluRow .alu101000 0b101000#6 (fun _ => 0x0000#16) (fun _ => 0x0000#16)
    (fun _ _ => 0x0000#16 &&& 0x0000#16) (fun _ _ => 0x0000#16) ∧
  AluRow .alu101001 0b101001#6 (fun _ => 0x0000#16) (fun _ => 0x0000#16)
    (fun _ _ => 0x0000#16 &&& 0x0000#16) (fun _ _ => 0xFFFF#16) ∧
  AluRow .alu101010 0b101010#6 (fun _ => 0x0000#16) (fun _ => 0x0000#16)
    (fun _ _ => 0x0000#16 + 0x0000#16) (fun _ _ => 0x0000#16) ∧
  AluRow .alu101011 0b101011#6 (fun _ => 0x0000#16) (fun _ => 0x0000#16)
    (fun _ _ => 0x0000#16 + 0x0000#16) (fun _ _ => 0xFFFF#16) ∧
  AluRow .alu101100 0b101100#6 (fun _ => 0x0000#16) (fun _ => 0xFFFF#16)
    (fun _ _ => 0x0000#16 &&& 0xFFFF#16) (fun _ _ => 0x0000#16) ∧
  AluRow .alu101101 0b101101#6 (fun _ => 0x0000#16) (fun _ => 0xFFFF#16)
    (fun _ _ => 0x0000#16 &&& 0xFFFF#16) (fun _ _ => 0xFFFF#16) ∧
  AluRow .alu101110 0b101110#6 (fun _ => 0x0000#16) (fun _ => 0xFFFF#16)
    (fun _ _ => 0x0000#16 + 0xFFFF#16) (fun _ _ => 0xFFFF#16) ∧
  AluRow .alu101111 0b101111#6 (fun _ => 0x0000#16) (fun _ => 0xFFFF#16)
    (fun _ _ => 0x0000#16 + 0xFFFF#16) (fun _ _ => 0x0000#16)

/-- The eight ALU rows with zx=1 nx=1 zy=0 return the functions the spec derives for them (R218, R219, R220, R221,
R222, R223, R224, R225). -/
def Obligations.AluRowsOfOnesAndY : Prop :=
  AluRow .alu110000 0b110000#6 (fun _ => 0xFFFF#16) (fun y => y)
    (fun _ y => 0xFFFF#16 &&& y) (fun _ y => y) ∧
  AluRow .alu110001 0b110001#6 (fun _ => 0xFFFF#16) (fun y => y)
    (fun _ y => 0xFFFF#16 &&& y) (fun _ y => ~~~y) ∧
  AluRow .alu110010 0b110010#6 (fun _ => 0xFFFF#16) (fun y => y)
    (fun _ y => 0xFFFF#16 + y) (fun _ y => y - 1#16) ∧
  AluRow .alu110011 0b110011#6 (fun _ => 0xFFFF#16) (fun y => y)
    (fun _ y => 0xFFFF#16 + y) (fun _ y => -y) ∧
  AluRow .alu110100 0b110100#6 (fun _ => 0xFFFF#16) (fun y => ~~~y)
    (fun _ y => 0xFFFF#16 &&& ~~~y) (fun _ y => ~~~y) ∧
  AluRow .alu110101 0b110101#6 (fun _ => 0xFFFF#16) (fun y => ~~~y)
    (fun _ y => 0xFFFF#16 &&& ~~~y) (fun _ y => y) ∧
  AluRow .alu110110 0b110110#6 (fun _ => 0xFFFF#16) (fun y => ~~~y)
    (fun _ y => 0xFFFF#16 + ~~~y) (fun _ y => -y - 2#16) ∧
  AluRow .alu110111 0b110111#6 (fun _ => 0xFFFF#16) (fun y => ~~~y)
    (fun _ y => 0xFFFF#16 + ~~~y) (fun _ y => y + 1#16)

/-- The eight ALU rows with zx=1 nx=1 zy=1 return the functions the spec derives for them (R226, R227, R228, R229,
R230, R231, R232, R233). -/
def Obligations.AluRowsOfOnesAndConstantY : Prop :=
  AluRow .alu111000 0b111000#6 (fun _ => 0xFFFF#16) (fun _ => 0x0000#16)
    (fun _ _ => 0xFFFF#16 &&& 0x0000#16) (fun _ _ => 0x0000#16) ∧
  AluRow .alu111001 0b111001#6 (fun _ => 0xFFFF#16) (fun _ => 0x0000#16)
    (fun _ _ => 0xFFFF#16 &&& 0x0000#16) (fun _ _ => 0xFFFF#16) ∧
  AluRow .alu111010 0b111010#6 (fun _ => 0xFFFF#16) (fun _ => 0x0000#16)
    (fun _ _ => 0xFFFF#16 + 0x0000#16) (fun _ _ => 0xFFFF#16) ∧
  AluRow .alu111011 0b111011#6 (fun _ => 0xFFFF#16) (fun _ => 0x0000#16)
    (fun _ _ => 0xFFFF#16 + 0x0000#16) (fun _ _ => 0x0000#16) ∧
  AluRow .alu111100 0b111100#6 (fun _ => 0xFFFF#16) (fun _ => 0xFFFF#16)
    (fun _ _ => 0xFFFF#16 &&& 0xFFFF#16) (fun _ _ => 0xFFFF#16) ∧
  AluRow .alu111101 0b111101#6 (fun _ => 0xFFFF#16) (fun _ => 0xFFFF#16)
    (fun _ _ => 0xFFFF#16 &&& 0xFFFF#16) (fun _ _ => 0x0000#16) ∧
  AluRow .alu111110 0b111110#6 (fun _ => 0xFFFF#16) (fun _ => 0xFFFF#16)
    (fun _ _ => 0xFFFF#16 + 0xFFFF#16) (fun _ _ => 0xFFFE#16) ∧
  AluRow .alu111111 0b111111#6 (fun _ => 0xFFFF#16) (fun _ => 0xFFFF#16)
    (fun _ _ => 0xFFFF#16 + 0xFFFF#16) (fun _ _ => 0x0001#16)

/-- Latch.load returns the held bit, which becomes the input exactly when write is true (R240). -/
def Obligations.LatchLoadHoldsOrTakesItsInput : Prop :=
  ∀ (input : Signal) (s : State),
    exec (.latchLoadRead input) s = .next { s with result := .signal s.latch } ∧
    exec (.latchLoadWrite input) s = .next { s with latch := input, result := .signal input }

/-- Register.load returns the held Word, which becomes the input exactly when write is true, bit by bit (R241, R242).
-/
def Obligations.RegisterLoadHoldsOrTakesItsInput : Prop :=
  (∀ (i : Fin Config.nreg) (input : Word) (s : State),
    exec (.registerLoadRead i input) s = .next { s with result := .word s.regs[i] } ∧
    exec (.registerLoadWrite i input) s =
      .next { s with regs := s.regs.set i input, result := .word input }) ∧
  ∀ (held input : Word) (write : Signal) (k : Nat), k < 16 →
    (registerLoad held input write).getLsbD k = latchLoad (held.getLsbD k) (input.getLsbD k) write

/-- Round trip: a written value is returned at once and by every later hold, for Latch and Register (R244). -/
def Obligations.WrittenValuesAreReadBack : Prop :=
  (∀ (s : State) (v w : Signal), ∃ t1 : State, exec (.latchLoadWrite v) s = .next t1 ∧ t1.result = .signal v ∧
    ∀ as : List Signal, as ≠ [] → ∃ t2 : State,
      runCalls (as.map fun a => .latchLoadRead a) t1 = .next t2 ∧ t2.result = .signal v ∧
      ∃ t3 : State, exec (.latchLoadWrite w) t2 = .next t3 ∧ t3.result = .signal w ∧
        ∀ bs : List Signal, bs ≠ [] → ∃ t4 : State,
          runCalls (bs.map fun b => .latchLoadRead b) t3 = .next t4 ∧ t4.result = .signal w) ∧
  ∀ (s : State) (i : Fin Config.nreg) (v w : Word), ∃ t1 : State,
    exec (.registerLoadWrite i v) s = .next t1 ∧ t1.result = .word v ∧
    ∀ as : List Word, as ≠ [] → ∃ t2 : State,
      runCalls (as.map fun a => .registerLoadRead i a) t1 = .next t2 ∧ t2.result = .word v ∧
      ∃ t3 : State, exec (.registerLoadWrite i w) t2 = .next t3 ∧ t3.result = .word w ∧
        ∀ bs : List Word, bs ≠ [] → ∃ t4 : State,
          runCalls (bs.map fun b => .registerLoadRead i b) t3 = .next t4 ∧ t4.result = .word w

/-- A hold repeated any number of times changes no state and always returns the same value (R245). -/
def Obligations.HoldsNeverChangeState : Prop :=
  ∀ (i : Instr) (s : State), isHold i = true →
    ∃ r : CallResult, ∀ n : Nat, runCalls (List.replicate (n + 1) i) s = .next { s with result := r }

/-- The input operand of a hold, and of the Program Counter outside LOAD, influences nothing (R243, R308). -/
def Obligations.IgnoredInputsHaveNoInfluence : Prop :=
  ∀ (s : State) (p q : Signal) (v w : Word) (i : Fin Config.nreg) (load inc : Signal)
    (a8 : BitVec 3) (a64 : BitVec 6) (a512 : BitVec 9) (a4K : BitVec 12) (a8K : BitVec 13) (a16K : BitVec 14),
    exec (.latchLoadRead p) s = exec (.latchLoadRead q) s ∧
    exec (.registerLoadRead i v) s = exec (.registerLoadRead i w) s ∧
    exec (.ram8LoadRead a8 v) s = exec (.ram8LoadRead a8 w) s ∧
    exec (.ram64LoadRead a64 v) s = exec (.ram64LoadRead a64 w) s ∧
    exec (.ram512LoadRead a512 v) s = exec (.ram512LoadRead a512 w) s ∧
    exec (.ram4KLoadRead a4K v) s = exec (.ram4KLoadRead a4K w) s ∧
    exec (.ram8KLoadRead a8K v) s = exec (.ram8KLoadRead a8K w) s ∧
    exec (.ram16KLoadRead a16K v) s = exec (.ram16KLoadRead a16K w) s ∧
    exec (.pcReset load inc v) s = exec (.pcReset load inc w) s ∧
    exec (.pcInc v) s = exec (.pcInc w) s ∧
    exec (.pcHold v) s = exec (.pcHold w) s

/-- A Latch or Register changes only by its own load with write true (R246). -/
def Obligations.OnlyOwnWriteChangesLatchOrRegister : Prop :=
  ∀ (i : Instr) (s t : State), exec i s = .next t →
    (t.latch ≠ s.latch → i = .latchLoadWrite t.latch) ∧
    ∀ k : Fin Config.nreg, t.regs[k] ≠ s.regs[k] → i = .registerLoadWrite k t.regs[k]

/-- A RAM load returns the addressed cell after the step; a read changes nothing, a write that one cell, in all six
tiers (R54, R55, R60, R264, R272). -/
def Obligations.RamLoadsReadOrWriteOneWholeCell : Prop :=
  (RamReadRow .ram8 Instr.ram8LoadRead ∧ RamReadRow .ram64 Instr.ram64LoadRead ∧
    RamReadRow .ram512 Instr.ram512LoadRead ∧ RamReadRow .ram4K Instr.ram4KLoadRead ∧
    RamReadRow .ram8K Instr.ram8KLoadRead ∧ RamReadRow .ram16K Instr.ram16KLoadRead) ∧
  RamWriteRow .ram8 Instr.ram8LoadWrite ∧ RamWriteRow .ram64 Instr.ram64LoadWrite ∧
  RamWriteRow .ram512 Instr.ram512LoadWrite ∧ RamWriteRow .ram4K Instr.ram4KLoadWrite ∧
  RamWriteRow .ram8K Instr.ram8KLoadWrite ∧ RamWriteRow .ram16K Instr.ram16KLoadWrite

/-- Every RAM tier behaves as the recursive node of demultiplexers, children and multiplexers (rests on R260, R264,
R265, R266, R267, R268, R269, R270, R271). -/
def Obligations.RamTiersRefineTheRecursiveNode : Prop :=
  RamRefines .ram8 ram8NodeLoad ram8Cell Instr.ram8LoadRead Instr.ram8LoadWrite ∧
  RamRefines .ram64 ram64NodeLoad ram64Cell Instr.ram64LoadRead Instr.ram64LoadWrite ∧
  RamRefines .ram512 ram512NodeLoad ram512Cell Instr.ram512LoadRead Instr.ram512LoadWrite ∧
  RamRefines .ram4K ram4KNodeLoad ram4KCell Instr.ram4KLoadRead Instr.ram4KLoadWrite ∧
  RamRefines .ram8K ram8KNodeLoad ram8KCell Instr.ram8KLoadRead Instr.ram8KLoadWrite ∧
  RamRefines .ram16K ram16KNodeLoad ram16KCell Instr.ram16KLoadRead Instr.ram16KLoadWrite

/-- The decoded write-enable reaches exactly the addressed leaf, and the node writes its leaves by it, in all six
tiers (R263). -/
def Obligations.WriteEnableIsOneHot : Prop :=
  ∀ write : Signal,
    (∀ a : BitVec 3, ram8Enables write a = oneHotLines Tier.ram8.capacity write a.toNat) ∧
    (∀ a : BitVec 6, ram64Enables write a = oneHotLines Tier.ram64.capacity write a.toNat) ∧
    (∀ a : BitVec 9, ram512Enables write a = oneHotLines Tier.ram512.capacity write a.toNat) ∧
    (∀ a : BitVec 12, ram4KEnables write a = oneHotLines Tier.ram4K.capacity write a.toNat) ∧
    (∀ a : BitVec 13, ram8KEnables write a = oneHotLines Tier.ram8K.capacity write a.toNat) ∧
    (∀ a : BitVec 14, ram16KEnables write a = oneHotLines Tier.ram16K.capacity write a.toNat) ∧
    (∀ held input : Word, registerLoad held input false = held) ∧
    (∀ (node : Ram8Node) (a b : BitVec 3) (input : Word),
      ram8Cell (ram8NodeLoad node input write a).2 b =
        registerLoad (ram8Cell node b) input ((ram8Enables write a).getD b.toNat false)) ∧
    (∀ (node : Ram64Node) (a b : BitVec 6) (input : Word),
      ram64Cell (ram64NodeLoad node input write a).2 b =
        registerLoad (ram64Cell node b) input ((ram64Enables write a).getD b.toNat false)) ∧
    (∀ (node : Ram512Node) (a b : BitVec 9) (input : Word),
      ram512Cell (ram512NodeLoad node input write a).2 b =
        registerLoad (ram512Cell node b) input ((ram512Enables write a).getD b.toNat false)) ∧
    (∀ (node : Ram4KNode) (a b : BitVec 12) (input : Word),
      ram4KCell (ram4KNodeLoad node input write a).2 b =
        registerLoad (ram4KCell node b) input ((ram4KEnables write a).getD b.toNat false)) ∧
    (∀ (node : Ram8KNode) (a b : BitVec 13) (input : Word),
      ram8KCell (ram8KNodeLoad node input write a).2 b =
        registerLoad (ram8KCell node b) input ((ram8KEnables write a).getD b.toNat false)) ∧
    (∀ (node : Ram16KNode) (a b : BitVec 14) (input : Word),
      ram16KCell (ram16KNodeLoad node input write a).2 b =
        registerLoad (ram16KCell node b) input ((ram16KEnables write a).getD b.toNat false))

/-- A write at X is read back at X and changes what is read at no other address (R274). -/
def Obligations.RamAddressesAreIsolated : Prop :=
  (∀ (t : Tier) (x : BitVec t.addressWidth) (v : Word) (s : State), StateWf s →
    ∃ s1 : State, exec (ramRow t true x v) s = .next s1 ∧
      ∀ (y : BitVec t.addressWidth) (input : Word), ∃ s2 : State, exec (ramRow t false y input) s1 = .next s2 ∧
        s2.result = .word (if y = x then v else memRead t y s)) ∧
  ∀ (t : Tier) (y : BitVec t.addressWidth), memRead t y State.reset = 0x0000#16

/-- A RAM call returns its own input, else the latest earlier write of that cell, else all-false (R61). -/
def Obligations.MemoryIsSequential : Prop :=
  ∀ calls : List Instr, ∃ s : State, runCalls calls State.reset = .next s ∧
    ∀ (t : Tier) (a : BitVec t.addressWidth) (write : Signal) (input : Word),
      ∃ s' : State, exec (ramRow t write a input) s = .next s' ∧
        s'.result = .word (if write then input else lastWrite t a.toNat calls)

/-- Local selector and forwarded address are the high and low digits of the address, tier by tier (rests on R86, R87,
R261, R262). -/
def Obligations.AddressFieldsAreTheDigitsOfTheAddress : Prop :=
  (∀ t : Tier, t.addressWidth = t.selectorWidth + t.forwardedWidth ∧ t.fanOut = 2 ^ t.selectorWidth ∧
    t.capacity = 2 ^ t.addressWidth) ∧
  ∀ (t : Tier) (a : BitVec t.addressWidth),
    a.toNat = (localSelector t.selectorWidth t.forwardedWidth a).toNat * 2 ^ t.forwardedWidth +
      (forwardedAddress t.forwardedWidth a).toNat

/-- Canonical memories of a capacity correspond one to one with arrays of that many Words (rests on R33, R40, R41; a
choice of the model's, log entry 4). -/
def Obligations.CanonicalMemoriesAreArrays : Prop :=
  (∀ (cap : Nat) (m n : Memory), memoryWf cap m = true → memoryWf cap n = true →
    (∀ a : Nat, a < cap → readCell m a = readCell n a) → m = n) ∧
  ∀ (cap : Nat) (f : Nat → Word), ∃ m : Memory, memoryWf cap m = true ∧ ∀ a : Nat, a < cap → readCell m a = f a

/-- RESET gives 0, LOAD the input, INC the next value, HOLD the held value; each returns the new counter (R302, R303,
R304, R305, R307). -/
def Obligations.ProgramCounterClasses : Prop :=
  ∀ (load inc : Signal) (input : Word) (s : State),
    exec (.pcReset load inc input) s = .next { s with pc := 0x0000#16, result := .word 0x0000#16 } ∧
    exec (.pcLoad inc input) s = .next { s with pc := input, result := .word input } ∧
    exec (.pcInc input) s = .next { s with pc := s.pc + 0x0001#16, result := .word (s.pc + 0x0001#16) } ∧
    exec (.pcHold input) s = .next { s with result := .word s.pc }

/-- Reset overrides load overrides increment overrides hold, for all eight control combinations (R301, R306). -/
def Obligations.ProgramCounterPriority : Prop :=
  ∀ (input : Word) (load inc reset : Signal) (s : State),
    let incremented := s.pc + 0x0001#16
    let stage0 := if inc then incremented else s.pc
    let stage1 := if load then input else stage0
    let stage2 := if reset then 0x0000#16 else stage1
    let next := registerLoad s.pc stage2 (load || inc || reset)
    (Instr.ofPc input load inc reset : Instr).packed =
      ⟨.pcLoad, 0, controlWord (BitVec.ofBool reset ++ BitVec.ofBool load ++ BitVec.ofBool inc), [input]⟩ ∧
    exec (Instr.ofPc input load inc reset) s = .next { s with pc := next, result := .word next } ∧
    next = if reset then 0x0000#16 else if load then input else if inc then s.pc + 0x0001#16 else s.pc

/-- One call changes the counter only to 0, the loaded input or pc + 1, and only a counter call does (rests on R28,
R301). -/
def Obligations.ProgramCounterMovesOnlyByItsOwnCall : Prop :=
  ∀ (i : Instr) (s t : State), exec i s = .next t →
    t.pc = s.pc ∨ (∃ (load inc : Signal) (input : Word), i = .pcReset load inc input ∧ t.pc = 0x0000#16) ∨
      (∃ inc : Signal, i = .pcLoad inc t.pc) ∨
      (∃ input : Word, i = .pcInc input ∧ t.pc = s.pc + 0x0001#16)

/-- Every operation answers a next state for every input and state; a step never faults (R330). -/
def Obligations.EveryCallCompletes : Prop :=
  (∀ (i : Instr) (s : State), ∃ t : State, exec i s = .next t) ∧
  ∀ (s : State) (r : Fault), step s ≠ .fault r

/-- No call reads what an earlier call returned, nor the calls still to come (R20). -/
def Obligations.ReturnedValuesAreNotState : Prop :=
  ∀ (i : Instr) (s : State) (r : CallResult) (script : List Byte),
    ∃ t : State, exec i s = .next t ∧ exec i { s with result := r, script := script } = .next { t with script := script }

/-- A call changes no component but the one it is made on, and no pending call (R66). -/
def Obligations.CallsTouchOnlyTheirOwnComponent : Prop :=
  ∀ (i : Instr) (s t : State), exec i s = .next t →
    (∀ c : Component, i.component? ≠ some c → SameAt c s t) ∧ t.script = s.script

/-- A component that receives no call keeps its state, which is also what a hold would do (R366). -/
def Obligations.UncalledComponentsHold : Prop :=
  (∀ (calls : List Instr) (s t : State) (c : Component), runCalls calls s = .next t →
    (∀ i ∈ calls, i.component? ≠ some c) → SameAt c s t) ∧
  ∀ (i : Instr) (s : State), isHold i = true → ∃ t : State, exec i s = .next t ∧ SameCore s t

/-- The calls of one well-formed cycle may be made in any order with the same state after it (rests on R35, R66, R365,
R373). -/
def Obligations.OrderWithinACycleIsNotObservable : Prop :=
  ∀ (cycle cycle' : List Instr) (s : State), cycleWellFormed cycle = true → cycle.Perm cycle' →
    ∃ t t' : State, runCalls cycle s = .next t ∧ runCalls cycle' s = .next t' ∧ SameCore t t'

/-- Every step keeps every RAM in the model's canonical list form (rests on R33, R40, R56; a choice of the model's,
log entry 4). -/
def Obligations.StepKeepsMemoriesCanonical : Prop :=
  ∀ s t : State, StateWf s → step s = .next t → StateWf t

/-- The reset memories are in the model's canonical list form (rests on R33, R40; a choice of the model's, log entry
4). -/
def Obligations.ResetMemoriesAreCanonical : Prop :=
  StateWf State.reset

/-- After reset every Latch is false: the Latch, the Registers, the counter and every RAM cell (R40). -/
def Obligations.ConstructionStateIsAllFalse : Prop :=
  State.reset.latch = false ∧ (∀ i : Fin Config.nreg, State.reset.regs[i] = 0x0000#16) ∧ State.reset.pc = 0x0000#16 ∧
  ∀ (t : Tier) (a : BitVec t.addressWidth), memRead t a State.reset = 0x0000#16

/-- Decoding the record of any instruction gives that instruction, with every operand (rests on R80, R81, R82, R83,
R84, R85; a choice of the model's, log entry 2). -/
def Obligations.DecodingAnEncodedCallGivesItBack : Prop :=
  ∀ (i : Instr) (rest : List Byte), decode (encode i ++ rest) = .ok (i, rest)

/-- The decoder accepts nothing but the encoder's records (rests on R80, R90; a choice of the model's, log entry 2).
-/
def Obligations.EveryDecodedRecordIsAnEncoding : Prop :=
  ∀ (bytes rest : List Byte) (i : Instr), decode bytes = .ok (i, rest) → bytes = encode i ++ rest

/-- A call is an instruction exactly when its unit, its number of arguments and their widths are right (rests on R57,
R331, R370, 93_implementation_defined.md U1). -/
def Obligations.CallsOutsideTheDomainAreTurnedAway : Prop :=
  ∀ c : Call, (∃ i : Instr, c.toInstr = .ok i) ↔ c.wellFormed = true

/-- Records written out from the table's encodings decode to the rows they stand for (rests on R80, R81, R83, R84,
R85; a choice of the model's, log entry 2). -/
def Obligations.WordsOfTheTableDecodeToTheirRows : Prop :=
  decode [20, 0, 0b00010011, 0, 0x05, 0x00, 0x03, 0x00] = .ok (.alu010011 0x0005 0x0003, []) ∧
  decode [22, 1, 0b1, 0, 0xEF, 0xBE] = .ok (.registerLoadWrite ⟨1, by decide⟩ 0xBEEF, []) ∧
  decode [24, 0, 0b01101101, 0, 0x45, 0x06] = .ok (.ram64LoadWrite 0b101101 0x0645, []) ∧
  decode [28, 0, 0b00111001, 0b00110000, 0, 0] = .ok (.ram16KLoadRead 0b11000000111001 0x0000, []) ∧
  decode [29, 0, 0b011, 0, 0x34, 0x12] = .ok (.pcLoad true 0x1234, []) ∧
  decode [29, 0, 0b101, 0, 0x34, 0x12] = .ok (.pcReset false true 0x1234, []) ∧
  decode ([13, 0, 0b110, 0] ++ [0, 0, 0, 0, 0, 0, 0, 0, 0, 0, 0, 0, 0x66, 0x66, 0, 0]) =
    .ok (.mux8way16 0 0 0 0 0 0 0x6666 0 0b110, []) ∧
  decode [20, 0, 0b01000000, 0, 0, 0, 0, 0] = .error .controlTooWide ∧
  decode [26, 0, 0, 0b00100000, 0, 0] = .error .controlTooWide

/-- A step makes the call that the model's pending call records decode to (rests on R8, R375; a choice of the model's,
log entry 2). -/
def Obligations.StepMakesTheDecodedCall : Prop :=
  ∀ (s : State) (i : Instr) (rest : List Byte), decode s.script = .ok (i, rest) →
    step s = exec i { s with script := rest }

/-- A step with no pending call holds everything; a record that is no call is refused by name (rests on R331, R366,
R375; a choice of the model's, log entry 6). -/
def Obligations.StepWithoutACallHoldsOrRefuses : Prop :=
  (∀ s : State, s.script = [] → step s = .next s) ∧
  ∀ (s : State) (e : DecodeError), s.script ≠ [] → decode s.script = .error e → step s = .refused (.rejectedCall e)

/-- Placing a bare control word before the pending calls makes the next step run its row and nothing else (rests on
R80, R375; a choice of the model's, log entry 2). -/
def Obligations.FetchedTableWordsRun : Prop :=
  ∀ (s : State) (nbits w : Nat) (i : Instr), decodeTableWord nbits w = some i →
    step (s.withFetchWord nbits w) = exec i s

/-- Running the model's call records of a list of calls makes exactly those calls, in order (rests on R8, R61, R375; a
choice of the model's, log entry 2). -/
def Obligations.RunsMakeTheCallsInOrder : Prop :=
  ∀ (calls : List Instr) (rest : List Byte) (s : State),
    Host.Core.run Sys2Proof.core calls.length { s with script := calls.flatMap encode ++ rest } =
      runCalls calls { s with script := rest }

/-- A scripted cycle of literal calls runs them in order, and is refused exactly when a component is called twice
(rests on R100, R365; a choice of the model's, log entry 7). -/
def Obligations.ScriptedCyclesRunTheirCalls : Prop :=
  ∀ (nreg : Nat) (cycle : List (Instr nreg)) (env : Bindings) (s : State nreg),
    (cycleWellFormed cycle = true → ∃ t : State nreg, runCalls cycle s = .next t ∧
      runCycle (cycle.map literalCall) [] env s = .ok (env, t)) ∧
    (cycleWellFormed cycle = false → runCycle (cycle.map literalCall) [] env s = .error .calledTwice)

/-- The pseudo-operations of the stimulus script do what their expansions do (rests on R101; a choice of the model's,
log entry 3). -/
def Obligations.PseudoOperationsExpandAsGiven : Prop :=
  ∀ (top : Tier) (a : BitVec top.addressWidth) (v : Word) (i : Fin Config.nreg) (s : State),
    exec (pseudoRamRead top a) s = .next { s with result := .word (memRead top a s) } ∧
    (∃ t : State, exec (pseudoRamWrite top a v) s = .next t ∧ t.result = .word v ∧
      topRam t top = writeCell (topRam s top) a.toNat v) ∧
    exec (pseudoRegisterRead i) s = .next { s with result := .word s.regs[i] } ∧
    exec (pseudoRegisterWrite i v) s = .next { s with regs := s.regs.set i v, result := .word v } ∧
    exec pseudoPcHold s = .next { s with result := .word s.pc } ∧
    exec pseudoPcInc s = .next { s with pc := s.pc + 0x0001#16, result := .word (s.pc + 0x0001#16) } ∧
    exec (pseudoPcJump v) s = .next { s with pc := v, result := .word v } ∧
    exec pseudoPcReset s = .next { s with pc := 0x0000#16, result := .word 0x0000#16 }

/-- For every NREG the machine starts all-false, completes every call, reads and writes its Registers, and keeps the
model's canonical list form (rests on R7, R26, R33, R40, R66, R241, R330; choices of the model's, log entries 3 and
4). -/
def Obligations.EveryRegisterCountKeepsTheRules : Prop :=
  ∀ nreg : Nat,
    ((State.construct nreg).latch = false ∧ (∀ k : Fin nreg, (State.construct nreg).regs[k] = 0x0000#16) ∧
      (State.construct nreg).pc = 0x0000#16 ∧
      ∀ (t : Tier) (a : BitVec t.addressWidth), memRead t a (State.construct nreg) = 0x0000#16) ∧
    (∀ (i : Instr nreg) (s : State nreg), ∃ t : State nreg, execAt i s = .next t ∧
      (∀ c : Component nreg, i.component? ≠ some c → SameAt c s t) ∧ t.script = s.script) ∧
    (∀ (k : Fin nreg) (input : Word) (s : State nreg),
      execAt (.registerLoadRead k input) s = .next { s with result := .word s.regs[k] } ∧
      execAt (.registerLoadWrite k input) s =
        .next { s with regs := s.regs.set k input, result := .word input }) ∧
    ∀ s t : State nreg, StateWf s → stepAt s = .next t → StateWf t

/-- For every value of the argument TOP_RAM_TIER, and every NREG, the aggregate's ram is read and written by its own
load alone (rests on R7, R35, R40, R264; choices of the model's, log entries 3 and 4). -/
def Obligations.EveryTopTierIsTheAggregatesRam : Prop :=
  ∀ (nreg : Nat) (top : Tier),
    (∀ (a : BitVec top.addressWidth) (input : Word) (s : State nreg),
      execAt (ramRow top false a input) s =
        .next { s with result := .word (readCell (topRam s top) a.toNat) }) ∧
    (∀ (a : BitVec top.addressWidth) (input : Word) (s : State nreg), StateWf s → ∃ t : State nreg,
      execAt (ramRow top true a input) s = .next t ∧ t.result = .word input ∧
      (∀ b : BitVec top.addressWidth, readCell (topRam t top) b.toNat =
        if b = a then input else readCell (topRam s top) b.toNat) ∧
      ∀ c : Component nreg, c ≠ .ram top → SameAt c s t) ∧
    (∀ (i : Instr nreg) (s t : State nreg), execAt i s = .next t → i.component? ≠ some (.ram top) →
      topRam t top = topRam s top) ∧
    ∀ a : BitVec top.addressWidth, readCell (topRam (State.construct nreg) top) a.toNat = 0x0000#16
end

