-- ==== Sys2Proof/Laws/Gates.lean ====
section
/-! SUPPORT. What each combinational function computes, said once: the gate-level definitions of `Machine/Gates.lean` against
native Booleans and bit vectors. -/

namespace Sys2Proof.Machine

/-! ### Scalar gates -/

@[simp] theorem nandGate_eq (a b : Signal) : nandGate a b = !(a && b) := by cases a <;> cases b <;> rfl
@[simp] theorem notGate_eq (a : Signal) : notGate a = !a := by cases a <;> rfl
@[simp] theorem andGate_eq (a b : Signal) : andGate a b = (a && b) := by cases a <;> cases b <;> rfl
@[simp] theorem orGate_eq (a b : Signal) : orGate a b = (a || b) := by cases a <;> cases b <;> rfl
@[simp] theorem xorGate_eq (a b : Signal) : xorGate a b = (a ^^ b) := by cases a <;> cases b <;> rfl
@[simp] theorem muxGate_eq (a b sel : Signal) : muxGate a b sel = if sel then b else a := by
  cases a <;> cases b <;> cases sel <;> rfl
@[simp] theorem dmuxGate_eq (input sel : Signal) : dmuxGate input sel = (input && !sel, input && sel) := by
  cases input <;> cases sel <;> rfl

/-! ### Vectors of Signals -/

/-- Index `i` of a collected vector is `f i`. -/
@[simp] theorem getLsbD_collect (f : Nat → Signal) (n i : Nat) : (collect f n).getLsbD i = (decide (i < n) && f i) := by
  induction n with
  | zero => simp [collect]
  | succ n ih =>
    rw [collect, BitVec.getLsbD_cons, ih]
    by_cases h : i = n
    · subst h; simp
    · simp only [h, if_false]
      by_cases h' : i < n
      · simp [h', Nat.lt_succ_of_lt h']
      · have : ¬ i < n + 1 := by omega
        simp [h', this]

/-- Index `i` of a Word built from Signals. -/
@[simp] theorem getLsbD_wordOfSignals (f : Nat → Signal) (i : Nat) :
    (wordOfSignals f).getLsbD i = (decide (i < 16) && f i) := getLsbD_collect f 16 i

/-- The same, for an index known to be in range. -/
@[simp] theorem getElem_wordOfSignals (f : Nat → Signal) (i : Nat) (hi : i < 16) : (wordOfSignals f)[i] = f i := by
  simp [← BitVec.getLsbD_eq_getElem, hi]

/-- A Word is built from its own Signals. -/
theorem wordOfSignals_eq (f : Nat → Signal) (w : Word) (h : ∀ i, i < 16 → f i = w.getLsbD i) : wordOfSignals f = w := by
  apply BitVec.eq_of_getLsbD_eq
  intro i hi
  rw [getLsbD_wordOfSignals, h i hi]
  simp [hi]

/-! ### Word-wide lifts -/

@[simp] theorem not16_eq (a : Word) : not16 a = ~~~a :=
  wordOfSignals_eq _ _ fun i hi => by simp [hi]
@[simp] theorem and16_eq (a b : Word) : and16 a b = a &&& b :=
  wordOfSignals_eq _ _ fun i _ => by simp
@[simp] theorem or16_eq (a b : Word) : or16 a b = a ||| b :=
  wordOfSignals_eq _ _ fun i _ => by simp
@[simp] theorem mux16_eq (a b : Word) (sel : Signal) : mux16 a b sel = if sel then b else a :=
  wordOfSignals_eq _ _ fun i _ => by cases sel <;> simp
@[simp] theorem choose16_eq (c : Signal) (p q : Word) : choose16 c p q = if c then p else q := by
  simp [choose16]

/-! ### Adders -/

theorem halfAdder_eq (a b : Signal) : halfAdder a b = (a ^^ b, a && b) := by simp [halfAdder]

/-- The sum is the parity and the carry the majority of the three inputs (R142). -/
theorem fullAdder_eq (a b c : Signal) : fullAdder a b c = ((a ^^ b) ^^ c, Bool.atLeastTwo a b c) := by
  cases a <;> cases b <;> cases c <;> rfl

/-- The ripple chain's carry is the carry of binary addition. -/
theorem addCarry_eq (a b : Word) (i : Nat) : addCarry a b i = BitVec.carry i a b false := by
  induction i with
  | zero => simp [addCarry]
  | succ i ih => rw [addCarry, fullAdder_eq, BitVec.carry_succ, ih]

/-- The ripple chain adds modulo 2^16 (R143). -/
theorem add16_eq (a b : Word) : add16 a b = a + b :=
  wordOfSignals_eq _ _ fun i hi => by
    rw [fullAdder_eq, addCarry_eq, BitVec.getLsbD_add hi]
    simp

/-- The increment chain's carry, past bit 0, is the carry of adding the Word 1. -/
theorem incCarry_eq (a : Word) (i : Nat) : incCarry a (i + 1) = BitVec.carry (i + 1) a 1#16 false := by
  induction i with
  | zero =>
    rw [incCarry, halfAdder_eq, BitVec.carry_succ]
    cases a.getLsbD 0 <;> simp [incCarry, Bool.atLeastTwo]
  | succ i ih =>
    rw [incCarry, halfAdder_eq, BitVec.carry_succ, ih]
    simp [Bool.atLeastTwo]

/-- The increment chain adds 1 modulo 2^16 (R144). -/
theorem inc16_eq (a : Word) : inc16 a = a + 1#16 :=
  wordOfSignals_eq _ _ fun i hi => by
    rw [halfAdder_eq, BitVec.getLsbD_add hi]
    cases i with
    | zero => simp [incCarry]
    | succ i => simp [incCarry_eq]

/-! ### Wide fan-in and fan-out -/

/-- `or8way` is true exactly when some Signal is (R122). -/
theorem or8way_eq (bits8 : BitVec 8) : or8way bits8 = decide (bits8 ≠ 0#8) := by
  revert bits8; decide

/-- The four-way tree picks the input its selector names (R123). -/
theorem mux4way16_eq (a b c d : Word) (sel2 : BitVec 2) :
    mux4way16 a b c d sel2 = #v[a, b, c, d][sel2.toNat] := by
  have h : ∀ s : BitVec 2, s = 0#2 ∨ s = 1#2 ∨ s = 2#2 ∨ s = 3#2 := by decide
  rcases h sel2 with rfl | rfl | rfl | rfl <;> simp [mux4way16]

/-- The eight-way tree picks the input its selector names (R124). -/
theorem mux8way16_eq (a b c d e f g h : Word) (sel3 : BitVec 3) :
    mux8way16 a b c d e f g h sel3 = #v[a, b, c, d, e, f, g, h][sel3.toNat] := by
  have hs : ∀ s : BitVec 3, s = 0#3 ∨ s = 1#3 ∨ s = 2#3 ∨ s = 3#3 ∨ s = 4#3 ∨ s = 5#3 ∨ s = 6#3 ∨ s = 7#3 := by decide
  rcases hs sel3 with rfl | rfl | rfl | rfl | rfl | rfl | rfl | rfl <;> simp [mux8way16]

/-- Output `n` of the four-way fan-out is `input` where the selector names `n` (R125). -/
theorem dmux4way_eq (input : Signal) (sel2 : BitVec 2) (n : Fin 4) :
    (dmux4way input sel2)[n] = (input && decide (sel2.toNat = n)) := by
  revert input sel2 n; decide

/-- Output `n` of the eight-way fan-out is `input` where the selector names `n` (R126). -/
theorem dmux8way_eq (input : Signal) (sel3 : BitVec 3) (n : Fin 8) :
    (dmux8way input sel3)[n] = (input && decide (sel3.toNat = n)) := by
  revert input sel3 n; decide

/-! ### Operands and flags -/

@[simp] theorem zeroOverride_eq (z : Signal) (v : Word) : zeroOverride z v = if z then 0#16 else v := by
  simp [zeroOverride]

@[simp] theorem complementOverride_eq (n : Signal) (v : Word) : complementOverride n v = if n then ~~~v else v := by
  simp [complementOverride]

/-- `zr` is true exactly when the Word is all-false (R167). -/
theorem zeroFlag_eq (out : Word) : zeroFlag out = decide (out = 0#16) := by
  rw [zeroFlag, notGate_eq, orGate_eq, or8way_eq, or8way_eq]
  have h : out = out.extractLsb' 8 8 ++ out.extractLsb' 0 8 := by
    apply BitVec.eq_of_getLsbD_eq
    intro i hi
    rw [BitVec.getLsbD_append]
    by_cases h8 : i < 8
    · simp [h8]
    · have h9 : i - 8 < 8 := by omega
      have h10 : 8 + (i - 8) = i := by omega
      simp [h8, h9, h10]
  by_cases h0 : out.extractLsb' 0 8 = 0#8
  · by_cases h1 : out.extractLsb' 8 8 = 0#8
    · have : out = 0#16 := by rw [h, h0, h1]; rfl
      simp [this]
    · have : out ≠ 0#16 := by rintro rfl; exact h1 rfl
      simp [h0, h1, this]
  · have : out ≠ 0#16 := by rintro rfl; exact h0 rfl
    simp [h0, this]

/-- `ng` is the sign bit (R168). -/
theorem negativeFlag_eq (out : Word) : negativeFlag out = out.msb := by
  simp [negativeFlag, BitVec.msb_eq_getLsbD_last]

end Sys2Proof.Machine
end

