-- ==== Sys2Proof/Laws/State.lean ====
section
/-! SUPPORT. One lemma per field per update of the state, so that no proof unfolds a record update. -/

namespace Sys2Proof.Machine

variable {nreg : Nat}

@[simp] theorem answer_latch (r : CallResult) (s : State nreg) : (answer r s).latch = s.latch := rfl
@[simp] theorem answer_regs (r : CallResult) (s : State nreg) : (answer r s).regs = s.regs := rfl
@[simp] theorem answer_pc (r : CallResult) (s : State nreg) : (answer r s).pc = s.pc := rfl
@[simp] theorem answer_ram8 (r : CallResult) (s : State nreg) : (answer r s).ram8 = s.ram8 := rfl
@[simp] theorem answer_ram64 (r : CallResult) (s : State nreg) : (answer r s).ram64 = s.ram64 := rfl
@[simp] theorem answer_ram512 (r : CallResult) (s : State nreg) : (answer r s).ram512 = s.ram512 := rfl
@[simp] theorem answer_ram4K (r : CallResult) (s : State nreg) : (answer r s).ram4K = s.ram4K := rfl
@[simp] theorem answer_ram8K (r : CallResult) (s : State nreg) : (answer r s).ram8K = s.ram8K := rfl
@[simp] theorem answer_ram16K (r : CallResult) (s : State nreg) : (answer r s).ram16K = s.ram16K := rfl
@[simp] theorem answer_result (r : CallResult) (s : State nreg) : (answer r s).result = r := rfl
@[simp] theorem answer_script (r : CallResult) (s : State nreg) : (answer r s).script = s.script := rfl

@[simp] theorem withScript_latch (script : List Byte) (s : State nreg) : (withScript script s).latch = s.latch := rfl
@[simp] theorem withScript_regs (script : List Byte) (s : State nreg) : (withScript script s).regs = s.regs := rfl
@[simp] theorem withScript_pc (script : List Byte) (s : State nreg) : (withScript script s).pc = s.pc := rfl
@[simp] theorem withScript_ram8 (script : List Byte) (s : State nreg) : (withScript script s).ram8 = s.ram8 := rfl
@[simp] theorem withScript_ram64 (script : List Byte) (s : State nreg) : (withScript script s).ram64 = s.ram64 := rfl
@[simp] theorem withScript_ram512 (script : List Byte) (s : State nreg) : (withScript script s).ram512 = s.ram512 := rfl
@[simp] theorem withScript_ram4K (script : List Byte) (s : State nreg) : (withScript script s).ram4K = s.ram4K := rfl
@[simp] theorem withScript_ram8K (script : List Byte) (s : State nreg) : (withScript script s).ram8K = s.ram8K := rfl
@[simp] theorem withScript_ram16K (script : List Byte) (s : State nreg) : (withScript script s).ram16K = s.ram16K := rfl
@[simp] theorem withScript_result (script : List Byte) (s : State nreg) : (withScript script s).result = s.result := rfl
@[simp] theorem withScript_script (script : List Byte) (s : State nreg) : (withScript script s).script = script := rfl

@[simp] theorem setRam_latch (t : Tier) (m : Memory) (s : State nreg) : (setRam t m s).latch = s.latch := by cases t <;> rfl
@[simp] theorem setRam_regs (t : Tier) (m : Memory) (s : State nreg) : (setRam t m s).regs = s.regs := by cases t <;> rfl
@[simp] theorem setRam_pc (t : Tier) (m : Memory) (s : State nreg) : (setRam t m s).pc = s.pc := by cases t <;> rfl
@[simp] theorem setRam_result (t : Tier) (m : Memory) (s : State nreg) : (setRam t m s).result = s.result := by cases t <;> rfl
@[simp] theorem setRam_script (t : Tier) (m : Memory) (s : State nreg) : (setRam t m s).script = s.script := by cases t <;> rfl

/-- A RAM instance reads as it was set. -/
@[simp] theorem ramOf_setRam_same (t : Tier) (m : Memory) (s : State nreg) : ramOf t (setRam t m s) = m := by cases t <;> rfl

/-- Setting one RAM instance leaves the others (R66). -/
theorem ramOf_setRam_other {t u : Tier} (h : u ≠ t) (m : Memory) (s : State nreg) : ramOf u (setRam t m s) = ramOf u s := by
  cases t <;> cases u <;> first | rfl | exact absurd rfl h

@[simp] theorem ramOf_answer (t : Tier) (r : CallResult) (s : State nreg) : ramOf t (answer r s) = ramOf t s := by
  cases t <;> rfl

@[simp] theorem ramOf_withScript (t : Tier) (b : List Byte) (s : State nreg) : ramOf t (withScript b s) = ramOf t s := by
  cases t <;> rfl

@[simp] theorem ramOf_set_latch (t : Tier) (s : State nreg) (q : Signal) : ramOf t { s with latch := q } = ramOf t s := by
  cases t <;> rfl

@[simp] theorem ramOf_set_regs (t : Tier) (s : State nreg) (v : Vector Word nreg) :
    ramOf t { s with regs := v } = ramOf t s := by
  cases t <;> rfl

@[simp] theorem ramOf_set_pc (t : Tier) (s : State nreg) (w : Word) : ramOf t { s with pc := w } = ramOf t s := by
  cases t <;> rfl

/-- Writing back what a RAM instance holds changes nothing. -/
@[simp] theorem setRam_ramOf (t : Tier) (s : State nreg) : setRam t (ramOf t s) s = s := by cases t <;> rfl

@[simp] theorem answer_answer (r q : CallResult) (s : State nreg) : answer r (answer q s) = answer r s := rfl

@[simp] theorem withScript_withScript (a b : List Byte) (s : State nreg) : withScript a (withScript b s) = withScript a s := rfl

end Sys2Proof.Machine
end

