-- ==== Sys2Proof/Laws/Memory.lean ====
section
/-! SUPPORT. What each operation on a Latch, a Register, a RAM and the Program Counter does, said once; and that every memory
operation keeps the canonical form. -/

namespace Sys2Proof.Machine

/-! ### Latch and Register -/

@[simp] theorem latchLoad_eq (q input write : Signal) : latchLoad q input write = if write then input else q := rfl

/-- `held' = write ? input : held` (R241). -/
@[simp] theorem registerLoad_eq (held input : Word) (write : Signal) :
    registerLoad held input write = if write then input else held :=
  wordOfSignals_eq _ _ fun i _ => by cases write <;> simp

/-! ### The canonical form -/

/-- What the canonical form says of a non-empty list. -/
theorem canonicalFrom_cons {cap lo k : Nat} {x : Word} {rest : Memory} :
    canonicalFrom cap lo ((k, x) :: rest) = true ↔
      lo ≤ k ∧ k < cap ∧ x ≠ 0#16 ∧ canonicalFrom cap (k + 1) rest = true := by
  simp [canonicalFrom, and_assoc]

/-- A list that is canonical from a cell on is canonical from any cell before it. -/
theorem canonicalFrom_mono {cap lo lo' : Nat} {m : Memory} (h : canonicalFrom cap lo m = true) (hl : lo' ≤ lo) :
    canonicalFrom cap lo' m = true := by
  cases m with
  | nil => rfl
  | cons p rest =>
    obtain ⟨k, x⟩ := p
    rw [canonicalFrom_cons] at h ⊢
    exact ⟨by omega, h.2⟩

/-- A cell below every listed one holds `0x0000`. -/
theorem readCell_below {cap lo a : Nat} {m : Memory} (h : canonicalFrom cap lo m = true) (ha : a < lo) :
    readCell m a = 0#16 := by
  induction m generalizing lo with
  | nil => rfl
  | cons p rest ih =>
    obtain ⟨k, x⟩ := p
    rw [canonicalFrom_cons] at h
    have hk : k ≠ a := by omega
    simpa [readCell, hk] using ih h.2.2.2 (by omega)

/-- A write keeps the canonical form. -/
theorem canonicalFrom_writeCell {cap lo a : Nat} {m : Memory} {v : Word} (h : canonicalFrom cap lo m = true)
    (hlo : lo ≤ a) (ha : a < cap) : canonicalFrom cap lo (writeCell m a v) = true := by
  induction m generalizing lo with
  | nil => by_cases hv : v = 0#16 <;> simp [writeCell, canonicalFrom, hv, hlo, ha]
  | cons p rest ih =>
    obtain ⟨k, x⟩ := p
    have h' := canonicalFrom_cons.mp h
    unfold writeCell
    split
    · split
      · exact h
      · rename_i hlt hv
        exact canonicalFrom_cons.mpr ⟨hlo, ha, hv, canonicalFrom_cons.mpr ⟨by omega, h'.2⟩⟩
    · split
      · split
        · exact canonicalFrom_mono h'.2.2.2 (by omega)
        · rename_i heq hv
          exact canonicalFrom_cons.mpr ⟨hlo, ha, hv, heq ▸ h'.2.2.2⟩
      · exact canonicalFrom_cons.mpr ⟨h'.1, h'.2.1, h'.2.2.1, ih h'.2.2.2 (by omega)⟩

/-- A write inside the capacity keeps the canonical form. -/
theorem memoryWf_writeCell {cap a : Nat} {m : Memory} {v : Word} (h : memoryWf cap m = true) (ha : a < cap) :
    memoryWf cap (writeCell m a v) = true := canonicalFrom_writeCell h (Nat.zero_le a) ha

/-- An empty list is canonical. -/
@[simp] theorem memoryWf_nil (cap : Nat) : memoryWf cap [] = true := rfl

/-! ### Read after write -/

/-- A cell reads as it was written, in a canonical memory. -/
theorem readCell_writeCell_same {cap lo : Nat} {m : Memory} (h : canonicalFrom cap lo m = true) (a : Nat) (v : Word) :
    readCell (writeCell m a v) a = v := by
  induction m generalizing lo with
  | nil => by_cases hv : v = 0#16 <;> simp [writeCell, readCell, hv]
  | cons p rest ih =>
    obtain ⟨k, x⟩ := p
    have h' := canonicalFrom_cons.mp h
    unfold writeCell
    split
    · split
      · rename_i hlt hv
        rw [hv]
        exact readCell_below (canonicalFrom_cons.mpr ⟨le_refl k, h'.2⟩) hlt
      · simp [readCell]
    · split
      · split
        · rename_i heq hv
          rw [hv]
          exact readCell_below h'.2.2.2 (by omega)
        · simp [readCell]
      · rename_i hne
        have hk : k ≠ a := fun e => hne e.symm
        simpa [readCell, hk] using ih h'.2.2.2

/-- A write leaves every other cell as it was (R55, R264). -/
theorem readCell_writeCell_other {m : Memory} {a b : Nat} (v : Word) (hab : b ≠ a) :
    readCell (writeCell m a v) b = readCell m b := by
  induction m with
  | nil => by_cases hv : v = 0#16 <;> simp [writeCell, readCell, hv, hab.symm]
  | cons p rest ih =>
    obtain ⟨k, x⟩ := p
    unfold writeCell
    split
    · split
      · rfl
      · simp [readCell, hab.symm]
    · split
      · rename_i heq
        have hk : k ≠ b := fun e => hab (e ▸ heq.symm)
        split <;> simp [readCell, hk, hab.symm]
      · simp only [readCell]
        split
        · rfl
        · exact ih

/-! ### RAM -/

/-- What a RAM `load` returns: `input` when it writes, the held Word when it does not (R264, R272). -/
@[simp] theorem ramLoad_fst (m : Memory) (input : Word) (write : Signal) (a : Nat) :
    (ramLoad m input write a).1 = if write then input else readCell m a := by simp [ramLoad]

/-- The memory after a RAM `load` (R264). -/
@[simp] theorem ramLoad_snd (m : Memory) (input : Word) (write : Signal) (a : Nat) :
    (ramLoad m input write a).2 = if write then writeCell m a input else m := by cases write <;> simp [ramLoad]

/-- A RAM `load` keeps the canonical form. -/
theorem memoryWf_ramLoad {cap a : Nat} {m : Memory} (input : Word) (write : Signal) (h : memoryWf cap m = true)
    (ha : a < cap) : memoryWf cap (ramLoad m input write a).2 = true := by
  cases write
  · simpa using h
  · simpa using memoryWf_writeCell h ha

/-! ### Program Counter -/

/-- The three nested selections (R301). -/
theorem pcStage_eq (current input : Word) (load inc reset : Signal) :
    pcStage current input load inc reset =
      if reset then 0#16 else if load then input else if inc then current + 1#16 else current := by
  simp [pcStage, add16_eq]

/-- `pc' = reset ? 0x0000 : load ? input : inc ? pc + 1 : pc` (R301). -/
theorem pcNext_eq (current input : Word) (load inc reset : Signal) :
    pcNext current input load inc reset =
      if reset then 0#16 else if load then input else if inc then current + 1#16 else current := by
  rw [pcNext, pcStage_eq, registerLoad_eq]
  cases load <;> cases inc <;> cases reset <;> simp

end Sys2Proof.Machine
end

