-- ==== Sys2Proof/Laws/Calls.lean ====
section
/-! SUPPORT. What each shared call on the state answers, said once, with the gate-level functions replaced by their native
readings; and the ALU's composition in native operations. -/

namespace Sys2Proof.Machine

variable {nreg : Nat}

/-- A pure call answers, always (R20). -/
theorem pureCall_eq (r : CallResult) (s : State nreg) : pureCall r s = .next { s with result := r } := rfl

/-- `Latch.load` (R240). -/
theorem latchCall_eq (input write : Signal) (s : State nreg) :
    latchCall input write s =
      .next { s with latch := if write then input else s.latch, result := .signal (if write then input else s.latch) } := by
  simp [latchCall, answer]

/-- `Register.load` (R241). -/
theorem registerCall_eq (i : Fin nreg) (input : Word) (write : Signal) (s : State nreg) :
    registerCall i input write s =
      .next (answer (.word (if write then input else s.regs[i]))
        { s with regs := s.regs.set i (if write then input else s.regs[i]) }) := by
  simp [registerCall]

/-- A Register that is read keeps its Word: the Registers after a hold are those before (R245). -/
theorem regs_set_self (i : Fin nreg) (s : State nreg) : s.regs.set i s.regs[i] = s.regs := by
  simp

/-- A RAM tier's `load` (R264). -/
theorem ramCall_eq (t : Tier) (input : Word) (write : Signal) (a : Nat) (s : State nreg) :
    ramCall t input write a s =
      .next (answer (.word (if write then input else readCell (ramOf t s) a))
        (if write then setRam t (writeCell (ramOf t s) a input) s else s)) := by
  cases write <;> simp [ramCall]

/-- `ProgramCounter.load` (R301). -/
theorem pcCall_eq (input : Word) (load inc reset : Signal) (s : State nreg) :
    pcCall input load inc reset s =
      .next (answer (.word (if reset then 0#16 else if load then input else if inc then s.pc + 1#16 else s.pc))
        { s with pc := if reset then 0#16 else if load then input else if inc then s.pc + 1#16 else s.pc }) := by
  simp [pcCall, pcNext_eq]

/-- The four stages in native operations (R165). -/
theorem aluOut_eq (c : AluControl) (x y : Word) :
    aluOut c x y =
      (let x1 := if c.nx then ~~~(if c.zx then 0#16 else x) else if c.zx then 0#16 else x
       let y1 := if c.ny then ~~~(if c.zy then 0#16 else y) else if c.zy then 0#16 else y
       let raw := if c.f then x1 + y1 else x1 &&& y1
       if c.no then ~~~raw else raw) := by
  simp [aluOut, aluRaw, effectiveOperand, add16_eq]

/-- An `alu` call answers with `out` and both flags of `out` (R160, R167, R168). -/
theorem aluCall_eq (c : AluControl) (x y : Word) (s : State nreg) :
    aluCall c x y s =
      .next (answer (.alu (aluOut c x y) (decide (aluOut c x y = 0#16)) (aluOut c x y).msb) s) := by
  simp [aluCall, pureCall, zeroFlag_eq, negativeFlag_eq]

/-- One step with no call left (R366, R375), for the default machine. -/
theorem step_nil (s : State) (h : s.script = []) : step s = .next s := by
  simp [step, nextCall, h]

end Sys2Proof.Machine
end

