-- ==== Sys2Proof/Laws/Decode.lean ====
section
/-! SUPPORT. The small laws of the call record's parts. -/

namespace Sys2Proof

/-- A Word is put together from its own two bytes. -/
@[simp] theorem wordOfBytes_lowByte_highByte (w : Word) : wordOfBytes (lowByte w) (highByte w) = w := by
  apply BitVec.eq_of_getLsbD_eq
  intro i hi
  rw [wordOfBytes, BitVec.getLsbD_append]
  by_cases h8 : i < 8
  · simp [lowByte, h8]
  · have h9 : i - 8 < 8 := by omega
    have h10 : 8 + (i - 8) = i := by omega
    simp [highByte, h8, h9, h10]

/-- The low byte of a Word put together from two bytes. -/
@[simp] theorem lowByte_wordOfBytes (lo hi : Byte) : lowByte (wordOfBytes lo hi) = lo := by
  apply BitVec.eq_of_getLsbD_eq
  intro i hi
  rw [lowByte, BitVec.getLsbD_extractLsb', wordOfBytes, BitVec.getLsbD_append]
  simp [hi]

/-- The high byte of a Word put together from two bytes. -/
@[simp] theorem highByte_wordOfBytes (lo hi : Byte) : highByte (wordOfBytes lo hi) = hi := by
  apply BitVec.eq_of_getLsbD_eq
  intro i hi'
  have h8 : ¬ 8 + i < 8 := by omega
  rw [highByte, BitVec.getLsbD_extractLsb', wordOfBytes, BitVec.getLsbD_append]
  simp [hi']

/-- Laid-out operands are read back. -/
@[simp] theorem takeWords_wordBytes (ws : List Word) (rest : List Byte) :
    takeWords ws.length (wordBytes ws ++ rest) = some (ws, rest) := by
  induction ws with
  | nil => rfl
  | cons w ws ih => simp [wordBytes, takeWords, ih]

/-- A number names the operation it belongs to. -/
@[simp] theorem ofNumber_number (op : Operation) : Operation.ofNumber op.number.toNat = some op := by
  cases op <;> rfl

/-- A control word of `n` bits is below `2^n`. -/
theorem controlWord_lt {n : Nat} (bits : BitVec n) : (controlWord bits).toNat < 2 ^ n := by
  rw [controlWord, BitVec.toNat_setWidth]
  exact Nat.lt_of_le_of_lt (Nat.mod_le _ _) bits.isLt

/-- A control word of at most 16 bits keeps its value in the record. -/
theorem controlWord_toNat {n : Nat} (bits : BitVec n) (h : n ≤ 16) : (controlWord bits).toNat = bits.toNat := by
  rw [controlWord, BitVec.toNat_setWidth]
  exact Nat.mod_eq_of_lt (Nat.lt_of_lt_of_le bits.isLt (Nat.pow_le_pow_right (by omega) h))

/-- A Signal operand is below 2. -/
theorem signalWord_lt (a : Signal) : (signalWord a).toNat < 2 := by cases a <;> decide

/-- A Signal operand is read back. -/
@[simp] theorem argSignal_signalWord (a : Signal) : argSignal (signalWord a).toNat = a := by cases a <;> rfl

/-- A Word operand is read back. -/
@[simp] theorem wordOf_toNat (w : Word) : wordOf w.toNat = w := by simp [wordOf]

end Sys2Proof
end

