-- ==== Sys2Proof/Laws/Exec.lean ====
section
/-! SUPPORT. What a call can do, said once: every instruction is one of five shared calls, made on the component that
`Instr.component?` names, for every state and every number of Registers. Claims about all instructions are proved from
`execAt_cases` or `exec_cases`, and no later proof goes through the 104 arms again. -/

namespace Sys2Proof.Machine

variable {nreg : Nat}

/-- `exec` is the family's member at the default `NREG`. -/
theorem exec_eq_execAt (i : Instr) (s : State) : exec i s = execAt i s := by cases i <;> rfl

/-- `step` is the family's member at the default `NREG`. -/
theorem step_eq_stepAt (s : State) : step s = stepAt s := by
  unfold step stepAt
  rcases nextCall s with _ | _ | ⟨i, rest⟩
  · rfl
  · rfl
  · exact exec_eq_execAt i _

/-- The call a row of the ALU makes, for every control combination (R160). -/
theorem execAt_ofAlu (zx nx zy ny f no : Signal) (x y : Word) (s : State nreg) :
    execAt (Instr.ofAlu zx nx zy ny f no x y) s = aluCall ⟨zx, nx, zy, ny, f, no⟩ x y s := by
  cases zx <;> cases nx <;> cases zy <;> cases ny <;> cases f <;> cases no <;> rfl

/-- The call a row of a RAM tier makes (R264). -/
theorem execAt_ramRow (t : Tier) (write : Signal) (a : BitVec t.addressWidth) (input : Word) (s : State nreg) :
    execAt (ramRow t write a input) s = ramCall t input write a.toNat s := by
  cases t <;> cases write <;> rfl

/-- The call a row of the Program Counter makes (R301). -/
theorem execAt_ofPc (input : Word) (load inc reset : Signal) (s : State nreg) :
    execAt (Instr.ofPc input load inc reset) s = pcCall input load inc reset s := by
  cases load <;> cases inc <;> cases reset <;> rfl

/-- `execAt_ofAlu` for the default machine. -/
theorem exec_ofAlu (zx nx zy ny f no : Signal) (x y : Word) (s : State) :
    exec (Instr.ofAlu zx nx zy ny f no x y) s = aluCall ⟨zx, nx, zy, ny, f, no⟩ x y s :=
  (exec_eq_execAt _ s).trans (execAt_ofAlu ..)

/-- `execAt_ramRow` for the default machine. -/
theorem exec_ramRow (t : Tier) (write : Signal) (a : BitVec t.addressWidth) (input : Word) (s : State) :
    exec (ramRow t write a input) s = ramCall t input write a.toNat s :=
  (exec_eq_execAt _ s).trans (execAt_ramRow ..)

/-- `execAt_ofPc` for the default machine. -/
theorem exec_ofPc (input : Word) (load inc reset : Signal) (s : State) :
    exec (Instr.ofPc input load inc reset) s = pcCall input load inc reset s :=
  (exec_eq_execAt _ s).trans (execAt_ofPc ..)

/-- The five shapes of an instruction: pure, or a call on the Latch, a Register, a RAM or the Program Counter. -/
theorem execAt_cases (i : Instr nreg) :
    (i.component? = none ∧ ∃ r, ∀ s, execAt i s = pureCall r s) ∨
    (∃ input write, i = Instr.ofWrite write (.latchLoadRead input) (.latchLoadWrite input) ∧
      i.component? = some .latch ∧ ∀ s, execAt i s = latchCall input write s) ∨
    (∃ k input write, i = Instr.ofWrite write (.registerLoadRead k input) (.registerLoadWrite k input) ∧
      i.component? = some (.register k) ∧ ∀ s, execAt i s = registerCall k input write s) ∨
    (∃ t write a input, i = ramRow t write a input ∧
      i.component? = some (.ram t) ∧ ∀ s, execAt i s = ramCall t input write a.toNat s) ∨
    (∃ input load inc reset, i = Instr.ofPc input load inc reset ∧
      i.component? = some .pc ∧ ∀ s, execAt i s = pcCall input load inc reset s) := by
  cases i
  case latchLoadRead p => exact .inr (.inl ⟨p, false, rfl, rfl, fun _ => rfl⟩)
  case latchLoadWrite p => exact .inr (.inl ⟨p, true, rfl, rfl, fun _ => rfl⟩)
  case registerLoadRead k v => exact .inr (.inr (.inl ⟨k, v, false, rfl, rfl, fun _ => rfl⟩))
  case registerLoadWrite k v => exact .inr (.inr (.inl ⟨k, v, true, rfl, rfl, fun _ => rfl⟩))
  case ram8LoadRead a v => exact .inr (.inr (.inr (.inl ⟨.ram8, false, a, v, rfl, rfl, fun _ => rfl⟩)))
  case ram8LoadWrite a v => exact .inr (.inr (.inr (.inl ⟨.ram8, true, a, v, rfl, rfl, fun _ => rfl⟩)))
  case ram64LoadRead a v => exact .inr (.inr (.inr (.inl ⟨.ram64, false, a, v, rfl, rfl, fun _ => rfl⟩)))
  case ram64LoadWrite a v => exact .inr (.inr (.inr (.inl ⟨.ram64, true, a, v, rfl, rfl, fun _ => rfl⟩)))
  case ram512LoadRead a v => exact .inr (.inr (.inr (.inl ⟨.ram512, false, a, v, rfl, rfl, fun _ => rfl⟩)))
  case ram512LoadWrite a v => exact .inr (.inr (.inr (.inl ⟨.ram512, true, a, v, rfl, rfl, fun _ => rfl⟩)))
  case ram4KLoadRead a v => exact .inr (.inr (.inr (.inl ⟨.ram4K, false, a, v, rfl, rfl, fun _ => rfl⟩)))
  case ram4KLoadWrite a v => exact .inr (.inr (.inr (.inl ⟨.ram4K, true, a, v, rfl, rfl, fun _ => rfl⟩)))
  case ram8KLoadRead a v => exact .inr (.inr (.inr (.inl ⟨.ram8K, false, a, v, rfl, rfl, fun _ => rfl⟩)))
  case ram8KLoadWrite a v => exact .inr (.inr (.inr (.inl ⟨.ram8K, true, a, v, rfl, rfl, fun _ => rfl⟩)))
  case ram16KLoadRead a v => exact .inr (.inr (.inr (.inl ⟨.ram16K, false, a, v, rfl, rfl, fun _ => rfl⟩)))
  case ram16KLoadWrite a v => exact .inr (.inr (.inr (.inl ⟨.ram16K, true, a, v, rfl, rfl, fun _ => rfl⟩)))
  case pcReset l n v => exact .inr (.inr (.inr (.inr ⟨v, l, n, true, rfl, rfl, fun _ => rfl⟩)))
  case pcLoad n v => exact .inr (.inr (.inr (.inr ⟨v, true, n, false, rfl, rfl, fun _ => rfl⟩)))
  case pcInc v => exact .inr (.inr (.inr (.inr ⟨v, false, true, false, rfl, rfl, fun _ => rfl⟩)))
  case pcHold v => exact .inr (.inr (.inr (.inr ⟨v, false, false, false, rfl, rfl, fun _ => rfl⟩)))
  all_goals exact .inl ⟨rfl, _, fun _ => rfl⟩

/-- `execAt_cases` for the default machine. -/
theorem exec_cases (i : Instr) :
    (i.component? = none ∧ ∃ r, ∀ s, exec i s = pureCall r s) ∨
    (∃ input write, i = Instr.ofWrite write (.latchLoadRead input) (.latchLoadWrite input) ∧
      i.component? = some .latch ∧ ∀ s, exec i s = latchCall input write s) ∨
    (∃ k input write, i = Instr.ofWrite write (.registerLoadRead k input) (.registerLoadWrite k input) ∧
      i.component? = some (.register k) ∧ ∀ s, exec i s = registerCall k input write s) ∨
    (∃ t write a input, i = ramRow t write a input ∧
      i.component? = some (.ram t) ∧ ∀ s, exec i s = ramCall t input write a.toNat s) ∨
    (∃ input load inc reset, i = Instr.ofPc input load inc reset ∧
      i.component? = some .pc ∧ ∀ s, exec i s = pcCall input load inc reset s) := by
  simp only [exec_eq_execAt]
  exact execAt_cases i

end Sys2Proof.Machine
end

