-- ==== Sys2Proof/Laws/PerInstr.lean ====
section
/-! SUPPORT. The family `PackedFits`, one lemma per constructor of `Instr`. -/

namespace Sys2Proof.Laws

/-- The record the encoder makes of `i` is in range: its unit exists, it has as many data operands as its operation, and its
control word has no bit above its format's width (`30_encoding.md` R80). -/
def PackedFits.Statement (i : Instr) : Prop :=
  i.packed.unit < i.packed.op.units ∧ i.packed.data.length = i.packed.op.dataCount ∧
    i.packed.control.toNat < 2 ^ i.packed.op.format.width

/-- Every operation has a unit 0. -/
theorem PackedFits.units_pos (op : Operation) : 0 < op.units := by cases op <;> decide

/-- A row whose control word is a field of its own width. -/
theorem PackedFits.of_field {n : Nat} {i : Instr} (bits : BitVec n) (hu : i.packed.unit = 0)
    (hd : i.packed.data.length = i.packed.op.dataCount) (hc : i.packed.control = controlWord bits)
    (hn : i.packed.op.format.width = n) : PackedFits.Statement i :=
  ⟨by rw [hu]; exact PackedFits.units_pos _, hd, by rw [hc, hn]; exact controlWord_lt bits⟩

/-- A row whose control word is a constant. -/
theorem PackedFits.of_constant {i : Instr} (c : BitVec 16) (n : Nat) (hu : i.packed.unit < i.packed.op.units)
    (hd : i.packed.data.length = i.packed.op.dataCount) (hc : i.packed.control = c)
    (hn : i.packed.op.format.width = n) (h : c.toNat < 2 ^ n) : PackedFits.Statement i :=
  ⟨hu, hd, by rw [hc, hn]; exact h⟩

theorem PackedFits.nand (a b : Signal) : PackedFits.Statement (.nand a b) :=
  PackedFits.of_constant 0 0 (PackedFits.units_pos _) rfl rfl rfl (by decide)
theorem PackedFits.not (a : Signal) : PackedFits.Statement (.not a) :=
  PackedFits.of_constant 0 0 (PackedFits.units_pos _) rfl rfl rfl (by decide)
theorem PackedFits.and (a b : Signal) : PackedFits.Statement (.and a b) :=
  PackedFits.of_constant 0 0 (PackedFits.units_pos _) rfl rfl rfl (by decide)
theorem PackedFits.or (a b : Signal) : PackedFits.Statement (.or a b) :=
  PackedFits.of_constant 0 0 (PackedFits.units_pos _) rfl rfl rfl (by decide)
theorem PackedFits.xor (a b : Signal) : PackedFits.Statement (.xor a b) :=
  PackedFits.of_constant 0 0 (PackedFits.units_pos _) rfl rfl rfl (by decide)
theorem PackedFits.mux (a b sel : Signal) : PackedFits.Statement (.mux a b sel) :=
  PackedFits.of_field (BitVec.ofBool sel) rfl rfl rfl rfl
theorem PackedFits.dmux (input sel : Signal) : PackedFits.Statement (.dmux input sel) :=
  PackedFits.of_field (BitVec.ofBool sel) rfl rfl rfl rfl
theorem PackedFits.not16 (a : Word) : PackedFits.Statement (.not16 a) :=
  PackedFits.of_constant 0 0 (PackedFits.units_pos _) rfl rfl rfl (by decide)
theorem PackedFits.and16 (a b : Word) : PackedFits.Statement (.and16 a b) :=
  PackedFits.of_constant 0 0 (PackedFits.units_pos _) rfl rfl rfl (by decide)
theorem PackedFits.or16 (a b : Word) : PackedFits.Statement (.or16 a b) :=
  PackedFits.of_constant 0 0 (PackedFits.units_pos _) rfl rfl rfl (by decide)
theorem PackedFits.mux16 (a b : Word) (sel : Signal) : PackedFits.Statement (.mux16 a b sel) :=
  PackedFits.of_field (BitVec.ofBool sel) rfl rfl rfl rfl
theorem PackedFits.or8way (bits8 : BitVec 8) : PackedFits.Statement (.or8way bits8) :=
  PackedFits.of_constant 0 0 (PackedFits.units_pos _) rfl rfl rfl (by decide)
theorem PackedFits.mux4way16 (a b c d : Word) (sel2 : BitVec 2) : PackedFits.Statement (.mux4way16 a b c d sel2) :=
  PackedFits.of_field (sel2) rfl rfl rfl rfl
theorem PackedFits.mux8way16 (a b c d e f g h : Word) (sel3 : BitVec 3) : PackedFits.Statement (.mux8way16 a b c d e f g h sel3) :=
  PackedFits.of_field (sel3) rfl rfl rfl rfl
theorem PackedFits.dmux4way (input : Signal) (sel2 : BitVec 2) : PackedFits.Statement (.dmux4way input sel2) :=
  PackedFits.of_field (sel2) rfl rfl rfl rfl
theorem PackedFits.dmux8way (input : Signal) (sel3 : BitVec 3) : PackedFits.Statement (.dmux8way input sel3) :=
  PackedFits.of_field (sel3) rfl rfl rfl rfl
theorem PackedFits.halfAdder (a b : Signal) : PackedFits.Statement (.halfAdder a b) :=
  PackedFits.of_constant 0 0 (PackedFits.units_pos _) rfl rfl rfl (by decide)
theorem PackedFits.fullAdder (a b c : Signal) : PackedFits.Statement (.fullAdder a b c) :=
  PackedFits.of_constant 0 0 (PackedFits.units_pos _) rfl rfl rfl (by decide)
theorem PackedFits.add16 (a b : Word) : PackedFits.Statement (.add16 a b) :=
  PackedFits.of_constant 0 0 (PackedFits.units_pos _) rfl rfl rfl (by decide)
theorem PackedFits.inc16 (a : Word) : PackedFits.Statement (.inc16 a) :=
  PackedFits.of_constant 0 0 (PackedFits.units_pos _) rfl rfl rfl (by decide)
theorem PackedFits.alu000000 (x y : Word) : PackedFits.Statement (.alu000000 x y) :=
  PackedFits.of_constant 0b000000 6 (PackedFits.units_pos _) rfl rfl rfl (by decide)
theorem PackedFits.alu000001 (x y : Word) : PackedFits.Statement (.alu000001 x y) :=
  PackedFits.of_constant 0b000001 6 (PackedFits.units_pos _) rfl rfl rfl (by decide)
theorem PackedFits.alu000010 (x y : Word) : PackedFits.Statement (.alu000010 x y) :=
  PackedFits.of_constant 0b000010 6 (PackedFits.units_pos _) rfl rfl rfl (by decide)
theorem PackedFits.alu000011 (x y : Word) : PackedFits.Statement (.alu000011 x y) :=
  PackedFits.of_constant 0b000011 6 (PackedFits.units_pos _) rfl rfl rfl (by decide)
theorem PackedFits.alu000100 (x y : Word) : PackedFits.Statement (.alu000100 x y) :=
  PackedFits.of_constant 0b000100 6 (PackedFits.units_pos _) rfl rfl rfl (by decide)
theorem PackedFits.alu000101 (x y : Word) : PackedFits.Statement (.alu000101 x y) :=
  PackedFits.of_constant 0b000101 6 (PackedFits.units_pos _) rfl rfl rfl (by decide)
theorem PackedFits.alu000110 (x y : Word) : PackedFits.Statement (.alu000110 x y) :=
  PackedFits.of_constant 0b000110 6 (PackedFits.units_pos _) rfl rfl rfl (by decide)
theorem PackedFits.alu000111 (x y : Word) : PackedFits.Statement (.alu000111 x y) :=
  PackedFits.of_constant 0b000111 6 (PackedFits.units_pos _) rfl rfl rfl (by decide)
theorem PackedFits.alu001000 (x y : Word) : PackedFits.Statement (.alu001000 x y) :=
  PackedFits.of_constant 0b001000 6 (PackedFits.units_pos _) rfl rfl rfl (by decide)
theorem PackedFits.alu001001 (x y : Word) : PackedFits.Statement (.alu001001 x y) :=
  PackedFits.of_constant 0b001001 6 (PackedFits.units_pos _) rfl rfl rfl (by decide)
theorem PackedFits.alu001010 (x y : Word) : PackedFits.Statement (.alu001010 x y) :=
  PackedFits.of_constant 0b001010 6 (PackedFits.units_pos _) rfl rfl rfl (by decide)
theorem PackedFits.alu001011 (x y : Word) : PackedFits.Statement (.alu001011 x y) :=
  PackedFits.of_constant 0b001011 6 (PackedFits.units_pos _) rfl rfl rfl (by decide)
theorem PackedFits.alu001100 (x y : Word) : PackedFits.Statement (.alu001100 x y) :=
  PackedFits.of_constant 0b001100 6 (PackedFits.units_pos _) rfl rfl rfl (by decide)
theorem PackedFits.alu001101 (x y : Word) : PackedFits.Statement (.alu001101 x y) :=
  PackedFits.of_constant 0b001101 6 (PackedFits.units_pos _) rfl rfl rfl (by decide)
theorem PackedFits.alu001110 (x y : Word) : PackedFits.Statement (.alu001110 x y) :=
  PackedFits.of_constant 0b001110 6 (PackedFits.units_pos _) rfl rfl rfl (by decide)
theorem PackedFits.alu001111 (x y : Word) : PackedFits.Statement (.alu001111 x y) :=
  PackedFits.of_constant 0b001111 6 (PackedFits.units_pos _) rfl rfl rfl (by decide)
theorem PackedFits.alu010000 (x y : Word) : PackedFits.Statement (.alu010000 x y) :=
  PackedFits.of_constant 0b010000 6 (PackedFits.units_pos _) rfl rfl rfl (by decide)
theorem PackedFits.alu010001 (x y : Word) : PackedFits.Statement (.alu010001 x y) :=
  PackedFits.of_constant 0b010001 6 (PackedFits.units_pos _) rfl rfl rfl (by decide)
theorem PackedFits.alu010010 (x y : Word) : PackedFits.Statement (.alu010010 x y) :=
  PackedFits.of_constant 0b010010 6 (PackedFits.units_pos _) rfl rfl rfl (by decide)
theorem PackedFits.alu010011 (x y : Word) : PackedFits.Statement (.alu010011 x y) :=
  PackedFits.of_constant 0b010011 6 (PackedFits.units_pos _) rfl rfl rfl (by decide)
theorem PackedFits.alu010100 (x y : Word) : PackedFits.Statement (.alu010100 x y) :=
  PackedFits.of_constant 0b010100 6 (PackedFits.units_pos _) rfl rfl rfl (by decide)
theorem PackedFits.alu010101 (x y : Word) : PackedFits.Statement (.alu010101 x y) :=
  PackedFits.of_constant 0b010101 6 (PackedFits.units_pos _) rfl rfl rfl (by decide)
theorem PackedFits.alu010110 (x y : Word) : PackedFits.Statement (.alu010110 x y) :=
  PackedFits.of_constant 0b010110 6 (PackedFits.units_pos _) rfl rfl rfl (by decide)
theorem PackedFits.alu010111 (x y : Word) : PackedFits.Statement (.alu010111 x y) :=
  PackedFits.of_constant 0b010111 6 (PackedFits.units_pos _) rfl rfl rfl (by decide)
theorem PackedFits.alu011000 (x y : Word) : PackedFits.Statement (.alu011000 x y) :=
  PackedFits.of_constant 0b011000 6 (PackedFits.units_pos _) rfl rfl rfl (by decide)
theorem PackedFits.alu011001 (x y : Word) : PackedFits.Statement (.alu011001 x y) :=
  PackedFits.of_constant 0b011001 6 (PackedFits.units_pos _) rfl rfl rfl (by decide)
theorem PackedFits.alu011010 (x y : Word) : PackedFits.Statement (.alu011010 x y) :=
  PackedFits.of_constant 0b011010 6 (PackedFits.units_pos _) rfl rfl rfl (by decide)
theorem PackedFits.alu011011 (x y : Word) : PackedFits.Statement (.alu011011 x y) :=
  PackedFits.of_constant 0b011011 6 (PackedFits.units_pos _) rfl rfl rfl (by decide)
theorem PackedFits.alu011100 (x y : Word) : PackedFits.Statement (.alu011100 x y) :=
  PackedFits.of_constant 0b011100 6 (PackedFits.units_pos _) rfl rfl rfl (by decide)
theorem PackedFits.alu011101 (x y : Word) : PackedFits.Statement (.alu011101 x y) :=
  PackedFits.of_constant 0b011101 6 (PackedFits.units_pos _) rfl rfl rfl (by decide)
theorem PackedFits.alu011110 (x y : Word) : PackedFits.Statement (.alu011110 x y) :=
  PackedFits.of_constant 0b011110 6 (PackedFits.units_pos _) rfl rfl rfl (by decide)
theorem PackedFits.alu011111 (x y : Word) : PackedFits.Statement (.alu011111 x y) :=
  PackedFits.of_constant 0b011111 6 (PackedFits.units_pos _) rfl rfl rfl (by decide)
theorem PackedFits.alu100000 (x y : Word) : PackedFits.Statement (.alu100000 x y) :=
  PackedFits.of_constant 0b100000 6 (PackedFits.units_pos _) rfl rfl rfl (by decide)
theorem PackedFits.alu100001 (x y : Word) : PackedFits.Statement (.alu100001 x y) :=
  PackedFits.of_constant 0b100001 6 (PackedFits.units_pos _) rfl rfl rfl (by decide)
theorem PackedFits.alu100010 (x y : Word) : PackedFits.Statement (.alu100010 x y) :=
  PackedFits.of_constant 0b100010 6 (PackedFits.units_pos _) rfl rfl rfl (by decide)
theorem PackedFits.alu100011 (x y : Word) : PackedFits.Statement (.alu100011 x y) :=
  PackedFits.of_constant 0b100011 6 (PackedFits.units_pos _) rfl rfl rfl (by decide)
theorem PackedFits.alu100100 (x y : Word) : PackedFits.Statement (.alu100100 x y) :=
  PackedFits.of_constant 0b100100 6 (PackedFits.units_pos _) rfl rfl rfl (by decide)
theorem PackedFits.alu100101 (x y : Word) : PackedFits.Statement (.alu100101 x y) :=
  PackedFits.of_constant 0b100101 6 (PackedFits.units_pos _) rfl rfl rfl (by decide)
theorem PackedFits.alu100110 (x y : Word) : PackedFits.Statement (.alu100110 x y) :=
  PackedFits.of_constant 0b100110 6 (PackedFits.units_pos _) rfl rfl rfl (by decide)
theorem PackedFits.alu100111 (x y : Word) : PackedFits.Statement (.alu100111 x y) :=
  PackedFits.of_constant 0b100111 6 (PackedFits.units_pos _) rfl rfl rfl (by decide)
theorem PackedFits.alu101000 (x y : Word) : PackedFits.Statement (.alu101000 x y) :=
  PackedFits.of_constant 0b101000 6 (PackedFits.units_pos _) rfl rfl rfl (by decide)
theorem PackedFits.alu101001 (x y : Word) : PackedFits.Statement (.alu101001 x y) :=
  PackedFits.of_constant 0b101001 6 (PackedFits.units_pos _) rfl rfl rfl (by decide)
theorem PackedFits.alu101010 (x y : Word) : PackedFits.Statement (.alu101010 x y) :=
  PackedFits.of_constant 0b101010 6 (PackedFits.units_pos _) rfl rfl rfl (by decide)
theorem PackedFits.alu101011 (x y : Word) : PackedFits.Statement (.alu101011 x y) :=
  PackedFits.of_constant 0b101011 6 (PackedFits.units_pos _) rfl rfl rfl (by decide)
theorem PackedFits.alu101100 (x y : Word) : PackedFits.Statement (.alu101100 x y) :=
  PackedFits.of_constant 0b101100 6 (PackedFits.units_pos _) rfl rfl rfl (by decide)
theorem PackedFits.alu101101 (x y : Word) : PackedFits.Statement (.alu101101 x y) :=
  PackedFits.of_constant 0b101101 6 (PackedFits.units_pos _) rfl rfl rfl (by decide)
theorem PackedFits.alu101110 (x y : Word) : PackedFits.Statement (.alu101110 x y) :=
  PackedFits.of_constant 0b101110 6 (PackedFits.units_pos _) rfl rfl rfl (by decide)
theorem PackedFits.alu101111 (x y : Word) : PackedFits.Statement (.alu101111 x y) :=
  PackedFits.of_constant 0b101111 6 (PackedFits.units_pos _) rfl rfl rfl (by decide)
theorem PackedFits.alu110000 (x y : Word) : PackedFits.Statement (.alu110000 x y) :=
  PackedFits.of_constant 0b110000 6 (PackedFits.units_pos _) rfl rfl rfl (by decide)
theorem PackedFits.alu110001 (x y : Word) : PackedFits.Statement (.alu110001 x y) :=
  PackedFits.of_constant 0b110001 6 (PackedFits.units_pos _) rfl rfl rfl (by decide)
theorem PackedFits.alu110010 (x y : Word) : PackedFits.Statement (.alu110010 x y) :=
  PackedFits.of_constant 0b110010 6 (PackedFits.units_pos _) rfl rfl rfl (by decide)
theorem PackedFits.alu110011 (x y : Word) : PackedFits.Statement (.alu110011 x y) :=
  PackedFits.of_constant 0b110011 6 (PackedFits.units_pos _) rfl rfl rfl (by decide)
theorem PackedFits.alu110100 (x y : Word) : PackedFits.Statement (.alu110100 x y) :=
  PackedFits.of_constant 0b110100 6 (PackedFits.units_pos _) rfl rfl rfl (by decide)
theorem PackedFits.alu110101 (x y : Word) : PackedFits.Statement (.alu110101 x y) :=
  PackedFits.of_constant 0b110101 6 (PackedFits.units_pos _) rfl rfl rfl (by decide)
theorem PackedFits.alu110110 (x y : Word) : PackedFits.Statement (.alu110110 x y) :=
  PackedFits.of_constant 0b110110 6 (PackedFits.units_pos _) rfl rfl rfl (by decide)
theorem PackedFits.alu110111 (x y : Word) : PackedFits.Statement (.alu110111 x y) :=
  PackedFits.of_constant 0b110111 6 (PackedFits.units_pos _) rfl rfl rfl (by decide)
theorem PackedFits.alu111000 (x y : Word) : PackedFits.Statement (.alu111000 x y) :=
  PackedFits.of_constant 0b111000 6 (PackedFits.units_pos _) rfl rfl rfl (by decide)
theorem PackedFits.alu111001 (x y : Word) : PackedFits.Statement (.alu111001 x y) :=
  PackedFits.of_constant 0b111001 6 (PackedFits.units_pos _) rfl rfl rfl (by decide)
theorem PackedFits.alu111010 (x y : Word) : PackedFits.Statement (.alu111010 x y) :=
  PackedFits.of_constant 0b111010 6 (PackedFits.units_pos _) rfl rfl rfl (by decide)
theorem PackedFits.alu111011 (x y : Word) : PackedFits.Statement (.alu111011 x y) :=
  PackedFits.of_constant 0b111011 6 (PackedFits.units_pos _) rfl rfl rfl (by decide)
theorem PackedFits.alu111100 (x y : Word) : PackedFits.Statement (.alu111100 x y) :=
  PackedFits.of_constant 0b111100 6 (PackedFits.units_pos _) rfl rfl rfl (by decide)
theorem PackedFits.alu111101 (x y : Word) : PackedFits.Statement (.alu111101 x y) :=
  PackedFits.of_constant 0b111101 6 (PackedFits.units_pos _) rfl rfl rfl (by decide)
theorem PackedFits.alu111110 (x y : Word) : PackedFits.Statement (.alu111110 x y) :=
  PackedFits.of_constant 0b111110 6 (PackedFits.units_pos _) rfl rfl rfl (by decide)
theorem PackedFits.alu111111 (x y : Word) : PackedFits.Statement (.alu111111 x y) :=
  PackedFits.of_constant 0b111111 6 (PackedFits.units_pos _) rfl rfl rfl (by decide)
theorem PackedFits.latchLoadRead (input : Signal) : PackedFits.Statement (.latchLoadRead input) :=
  PackedFits.of_constant 0 1 (PackedFits.units_pos _) rfl rfl rfl (by decide)
theorem PackedFits.latchLoadWrite (input : Signal) : PackedFits.Statement (.latchLoadWrite input) :=
  PackedFits.of_constant 1 1 (PackedFits.units_pos _) rfl rfl rfl (by decide)
theorem PackedFits.registerLoadRead (i : Fin Config.nreg) (input : Word) : PackedFits.Statement (.registerLoadRead i input) :=
  PackedFits.of_constant 0 1 i.isLt rfl rfl rfl (by decide)
theorem PackedFits.registerLoadWrite (i : Fin Config.nreg) (input : Word) : PackedFits.Statement (.registerLoadWrite i input) :=
  PackedFits.of_constant 1 1 i.isLt rfl rfl rfl (by decide)
theorem PackedFits.ram8LoadRead (address : BitVec 3) (input : Word) : PackedFits.Statement (.ram8LoadRead address input) :=
  PackedFits.of_field (0b0#1 ++ address) rfl rfl rfl rfl
theorem PackedFits.ram8LoadWrite (address : BitVec 3) (input : Word) : PackedFits.Statement (.ram8LoadWrite address input) :=
  PackedFits.of_field (0b1#1 ++ address) rfl rfl rfl rfl
theorem PackedFits.ram64LoadRead (address : BitVec 6) (input : Word) : PackedFits.Statement (.ram64LoadRead address input) :=
  PackedFits.of_field (0b0#1 ++ address) rfl rfl rfl rfl
theorem PackedFits.ram64LoadWrite (address : BitVec 6) (input : Word) : PackedFits.Statement (.ram64LoadWrite address input) :=
  PackedFits.of_field (0b1#1 ++ address) rfl rfl rfl rfl
theorem PackedFits.ram512LoadRead (address : BitVec 9) (input : Word) : PackedFits.Statement (.ram512LoadRead address input) :=
  PackedFits.of_field (0b0#1 ++ address) rfl rfl rfl rfl
theorem PackedFits.ram512LoadWrite (address : BitVec 9) (input : Word) : PackedFits.Statement (.ram512LoadWrite address input) :=
  PackedFits.of_field (0b1#1 ++ address) rfl rfl rfl rfl
theorem PackedFits.ram4KLoadRead (address : BitVec 12) (input : Word) : PackedFits.Statement (.ram4KLoadRead address input) :=
  PackedFits.of_field (0b0#1 ++ address) rfl rfl rfl rfl
theorem PackedFits.ram4KLoadWrite (address : BitVec 12) (input : Word) : PackedFits.Statement (.ram4KLoadWrite address input) :=
  PackedFits.of_field (0b1#1 ++ address) rfl rfl rfl rfl
theorem PackedFits.ram8KLoadRead (address : BitVec 13) (input : Word) : PackedFits.Statement (.ram8KLoadRead address input) :=
  PackedFits.of_field (0b0#1 ++ address) rfl rfl rfl rfl
theorem PackedFits.ram8KLoadWrite (address : BitVec 13) (input : Word) : PackedFits.Statement (.ram8KLoadWrite address input) :=
  PackedFits.of_field (0b1#1 ++ address) rfl rfl rfl rfl
theorem PackedFits.ram16KLoadRead (address : BitVec 14) (input : Word) : PackedFits.Statement (.ram16KLoadRead address input) :=
  PackedFits.of_field (0b0#1 ++ address) rfl rfl rfl rfl
theorem PackedFits.ram16KLoadWrite (address : BitVec 14) (input : Word) : PackedFits.Statement (.ram16KLoadWrite address input) :=
  PackedFits.of_field (0b1#1 ++ address) rfl rfl rfl rfl
theorem PackedFits.pcReset (load inc : Signal) (input : Word) : PackedFits.Statement (.pcReset load inc input) :=
  PackedFits.of_field (0b1#1 ++ BitVec.ofBool load ++ BitVec.ofBool inc) rfl rfl rfl rfl
theorem PackedFits.pcLoad (inc : Signal) (input : Word) : PackedFits.Statement (.pcLoad inc input) :=
  PackedFits.of_field (0b01#2 ++ BitVec.ofBool inc) rfl rfl rfl rfl
theorem PackedFits.pcInc (input : Word) : PackedFits.Statement (.pcInc input) :=
  PackedFits.of_field (0b001#3) rfl rfl rfl rfl
theorem PackedFits.pcHold (input : Word) : PackedFits.Statement (.pcHold input) :=
  PackedFits.of_field (0b000#3) rfl rfl rfl rfl

end Sys2Proof.Laws
end

