-- ==== Sys2Proof/Laws/RamTree.lean ====
section
/-! SUPPORT. What the generic RAM node does, said once for each fan-out: the child the selector names answers the call under the
node's own `write`, and every other child is called with `write` false (`44_tiered_ram.md` R260, R263, R271). -/

namespace Sys2Proof.Machine

/-- A node of 8 children returns what the selected child returns. -/
theorem load8_fst {C : Type} (child : C → Signal → Word × C) (children : Vector C 8) (write : Signal) (sel : BitVec 3) :
    (load8 child children write sel).1 = (child children[sel.toNat] write).1 := by
  have hs : ∀ s : BitVec 3, s = 0#3 ∨ s = 1#3 ∨ s = 2#3 ∨ s = 3#3 ∨ s = 4#3 ∨ s = 5#3 ∨ s = 6#3 ∨ s = 7#3 := by decide
  rcases hs sel with rfl | rfl | rfl | rfl | rfl | rfl | rfl | rfl <;> simp [load8, mux8way16, dmux8way, dmux4way]

/-- After a call of a node of 8 children, child `n` is what its own call left, under its own line of the fan-out. -/
theorem load8_snd {C : Type} (child : C → Signal → Word × C) (children : Vector C 8) (write : Signal) (sel : BitVec 3)
    (n : Fin 8) :
    (load8 child children write sel).2[n] = (child children[n] (write && decide (sel.toNat = n))).2 := by
  have hn : ∀ k : Fin 8, k = 0 ∨ k = 1 ∨ k = 2 ∨ k = 3 ∨ k = 4 ∨ k = 5 ∨ k = 6 ∨ k = 7 := by decide
  rw [← dmux8way_eq]
  rcases hn n with rfl | rfl | rfl | rfl | rfl | rfl | rfl | rfl <;> rfl

/-- A node of 4 children returns what the selected child returns. -/
theorem load4_fst {C : Type} (child : C → Signal → Word × C) (children : Vector C 4) (write : Signal) (sel : BitVec 2) :
    (load4 child children write sel).1 = (child children[sel.toNat] write).1 := by
  have hs : ∀ s : BitVec 2, s = 0#2 ∨ s = 1#2 ∨ s = 2#2 ∨ s = 3#2 := by decide
  rcases hs sel with rfl | rfl | rfl | rfl <;> simp [load4, mux4way16, dmux4way]

/-- After a call of a node of 4 children, child `n` is what its own call left, under its own line of the fan-out. -/
theorem load4_snd {C : Type} (child : C → Signal → Word × C) (children : Vector C 4) (write : Signal) (sel : BitVec 2)
    (n : Fin 4) :
    (load4 child children write sel).2[n] = (child children[n] (write && decide (sel.toNat = n))).2 := by
  have hn : ∀ k : Fin 4, k = 0 ∨ k = 1 ∨ k = 2 ∨ k = 3 := by decide
  rw [← dmux4way_eq]
  rcases hn n with rfl | rfl | rfl | rfl <;> rfl

/-- A node of 2 children returns what the selected child returns. -/
theorem load2_fst {C : Type} (child : C → Signal → Word × C) (children : Vector C 2) (write : Signal) (sel : BitVec 1) :
    (load2 child children write sel).1 = (child children[sel.toNat] write).1 := by
  have hs : ∀ s : BitVec 1, s = 0#1 ∨ s = 1#1 := by decide
  rcases hs sel with rfl | rfl <;> simp [load2]

/-- After a call of a node of 2 children, child `n` is what its own call left, under its own line of the fan-out. -/
theorem load2_snd {C : Type} (child : C → Signal → Word × C) (children : Vector C 2) (write : Signal) (sel : BitVec 1)
    (n : Fin 2) :
    (load2 child children write sel).2[n] = (child children[n] (write && decide (sel.toNat = n))).2 := by
  have hn : ∀ k : Fin 2, k = 0 ∨ k = 1 := by decide
  have hs : ∀ s : BitVec 1, s = 0#1 ∨ s = 1#1 := by decide
  rcases hs sel with rfl | rfl <;> rcases hn n with rfl | rfl <;> simp [load2]

end Sys2Proof.Machine
end

