-- ==== Sys2Proof/Tests/Slice0.lean ====
section
/-! SUPPORT. The model's own tests. Words are written out from the encoding column of `spec/opcode_table.json` and the formats of
`30_encoding.md` R80; expected results are those of `95_test_vectors.md` (the section is named at each test) or are worked out by
hand from the rule named. Nothing here is the model's own answer pasted in. -/

namespace Sys2Proof.Tests

open Sys2Proof Sys2Proof.Machine

/-! ### Helpers -/

/-- What a call returned, when it answered a next state. -/
def returned : Outcome → Option CallResult
  | .next s => some s.result
  | .fault _ => none
  | .refused _ => none

/-- The state after a call, when it answered one. -/
def after : Outcome → Option State
  | .next s => some s
  | .fault _ => none
  | .refused _ => none

/-- Why a step was refused. -/
def refusal : Outcome → Option Refusal
  | .next _ => none
  | .fault _ => none
  | .refused r => some r

/-- A record and an instruction stand for each other. -/
abbrev Codes (bytes : List Byte) (i : Instr) : Prop := decode bytes = .ok (i, []) ∧ encode i = bytes

/-- A machine that has been used: every part of it holds something. -/
def used : State :=
  { State.reset with
    latch := true, regs := #v[0xBEEF#16, 0x1234#16], pc := 0x0007#16, ram8 := [(5, 0x0A05#16)]
    ram64 := [(45, 0x0645#16)], ram512 := [(300, 0x5300#16)], ram4K := [(511, 0x4511#16), (2748, 0x4ABC#16)]
    ram8K := [(4095, 0xFFFF#16), (4096, 0x1111#16)], ram16K := [(4095, 0xFFFF#16), (12345, 0x3039#16)] }

/-! ### WellFormed: one ill-formed term for each check -/

/-- Check 1: there are `NREG` Registers, so Register 2 is none of them. -/
theorem test_wellFormed_refuses_a_missing_unit : (Call.mk .registerLoad 2 [0, 0]).wellFormed = false := by decide
/-- Check 2: `mux` takes three arguments. -/
theorem test_wellFormed_refuses_a_missing_argument : (Call.mk .mux 0 [0, 1]).wellFormed = false := by decide
/-- Check 3: a Ram8 address has three bits (R57). -/
theorem test_wellFormed_refuses_a_wide_address : (Call.mk .ram8Load 0 [0x0A00, 1, 8]).wellFormed = false := by decide
/-- The same call with the address in range is in the domain. -/
theorem test_wellFormed_accepts_the_last_address : (Call.mk .ram8Load 0 [0x0A00, 1, 7]).wellFormed = true := by decide
/-- Two calls on the Program Counter in one cycle (R365). -/
theorem test_cycle_refuses_a_second_call : cycleWellFormed ([.pcInc 0, .nand true true, .pcHold 0] : List Instr) = false := by decide
/-- One call on each owner of state, and a pure operation twice (R365). -/
theorem test_cycle_accepts_one_call_each :
    cycleWellFormed ([.pcInc 0, .registerLoadWrite ⟨0, by decide⟩ 5, .registerLoadRead ⟨1, by decide⟩ 0, .inc16 1,
      .inc16 2] : List Instr) = true := by decide

/-! ### Decoding and encoding: every row, its word written out -/

theorem test_codes_scalar_gates :
    Codes [0, 0, 0, 0, 1, 0, 0, 0] (.nand true false) ∧ Codes [1, 0, 0, 0, 1, 0] (.not true) ∧
    Codes [2, 0, 0, 0, 0, 0, 1, 0] (.and false true) ∧ Codes [3, 0, 0, 0, 1, 0, 0, 0] (.or true false) ∧
    Codes [4, 0, 0, 0, 0, 0, 1, 0] (.xor false true) := by decide
/-- `SEL1`: the control word is the selector (R80). -/
theorem test_codes_mux_and_dmux :
    Codes [5, 0, 0b1, 0, 1, 0, 0, 0] (.mux true false true) ∧ Codes [6, 0, 0b0, 0, 1, 0] (.dmux true false) := by decide
theorem test_codes_word_gates :
    Codes [7, 0, 0, 0, 0x0F, 0xF0] (.not16 0xF00F) ∧ Codes [8, 0, 0, 0, 0x0F, 0x0F, 0x55, 0x33] (.and16 0x0F0F 0x3355) ∧
    Codes [9, 0, 0, 0, 0x0F, 0x0F, 0x55, 0x33] (.or16 0x0F0F 0x3355) ∧
    Codes [10, 0, 0b1, 0, 0x0F, 0x0F, 0x55, 0x33] (.mux16 0x0F0F 0x3355 true) ∧
    Codes [11, 0, 0, 0, 0b10000000, 0] (.or8way 0b10000000) := by decide
/-- `SEL2` and `SEL3`: the control word is the selector, most significant bit first (R80, R85). -/
theorem test_codes_trees :
    Codes [12, 0, 0b10, 0, 0x00, 0x10, 0x11, 0x11, 0x22, 0x12, 0x33, 0x13]
      (.mux4way16 0x1000 0x1111 0x1222 0x1333 0b10) ∧
    Codes ([13, 0, 0b110, 0] ++ [0x00, 0x10, 0x11, 0x11, 0x22, 0x12, 0x33, 0x13] ++
        [0x44, 0x14, 0x55, 0x15, 0x66, 0x16, 0x77, 0x17])
      (.mux8way16 0x1000 0x1111 0x1222 0x1333 0x1444 0x1555 0x1666 0x1777 0b110) ∧
    Codes [14, 0, 0b01, 0, 1, 0] (.dmux4way true 0b01) ∧ Codes [15, 0, 0b011, 0, 1, 0] (.dmux8way true 0b011) := by decide
theorem test_codes_adders :
    Codes [16, 0, 0, 0, 1, 0, 0, 0] (.halfAdder true false) ∧ Codes [17, 0, 0, 0, 1, 0, 0, 0, 1, 0] (.fullAdder true false true) ∧
    Codes [18, 0, 0, 0, 0x34, 0x12, 0xCD, 0xAB] (.add16 0x1234 0xABCD) ∧ Codes [19, 0, 0, 0, 0xFF, 0x7F] (.inc16 0x7FFF) := by
  decide

/-- The record of an ALU call on `x = 0x1234`, `y = 0xABCD` under a packed control word. -/
def aluRecord (control : Byte) : List Byte := [20, 0, control, 0, 0x34, 0x12, 0xCD, 0xAB]

theorem test_codes_alu_rows_xAndY :
    Codes (aluRecord 0b000000) (.alu000000 0x1234 0xABCD) ∧
    Codes (aluRecord 0b000001) (.alu000001 0x1234 0xABCD) ∧
    Codes (aluRecord 0b000010) (.alu000010 0x1234 0xABCD) ∧
    Codes (aluRecord 0b000011) (.alu000011 0x1234 0xABCD) ∧
    Codes (aluRecord 0b000100) (.alu000100 0x1234 0xABCD) ∧
    Codes (aluRecord 0b000101) (.alu000101 0x1234 0xABCD) ∧
    Codes (aluRecord 0b000110) (.alu000110 0x1234 0xABCD) ∧
    Codes (aluRecord 0b000111) (.alu000111 0x1234 0xABCD) := by decide
theorem test_codes_alu_rows_xAndConstantY :
    Codes (aluRecord 0b001000) (.alu001000 0x1234 0xABCD) ∧
    Codes (aluRecord 0b001001) (.alu001001 0x1234 0xABCD) ∧
    Codes (aluRecord 0b001010) (.alu001010 0x1234 0xABCD) ∧
    Codes (aluRecord 0b001011) (.alu001011 0x1234 0xABCD) ∧
    Codes (aluRecord 0b001100) (.alu001100 0x1234 0xABCD) ∧
    Codes (aluRecord 0b001101) (.alu001101 0x1234 0xABCD) ∧
    Codes (aluRecord 0b001110) (.alu001110 0x1234 0xABCD) ∧
    Codes (aluRecord 0b001111) (.alu001111 0x1234 0xABCD) := by decide
theorem test_codes_alu_rows_notXAndY :
    Codes (aluRecord 0b010000) (.alu010000 0x1234 0xABCD) ∧
    Codes (aluRecord 0b010001) (.alu010001 0x1234 0xABCD) ∧
    Codes (aluRecord 0b010010) (.alu010010 0x1234 0xABCD) ∧
    Codes (aluRecord 0b010011) (.alu010011 0x1234 0xABCD) ∧
    Codes (aluRecord 0b010100) (.alu010100 0x1234 0xABCD) ∧
    Codes (aluRecord 0b010101) (.alu010101 0x1234 0xABCD) ∧
    Codes (aluRecord 0b010110) (.alu010110 0x1234 0xABCD) ∧
    Codes (aluRecord 0b010111) (.alu010111 0x1234 0xABCD) := by decide
theorem test_codes_alu_rows_notXAndConstantY :
    Codes (aluRecord 0b011000) (.alu011000 0x1234 0xABCD) ∧
    Codes (aluRecord 0b011001) (.alu011001 0x1234 0xABCD) ∧
    Codes (aluRecord 0b011010) (.alu011010 0x1234 0xABCD) ∧
    Codes (aluRecord 0b011011) (.alu011011 0x1234 0xABCD) ∧
    Codes (aluRecord 0b011100) (.alu011100 0x1234 0xABCD) ∧
    Codes (aluRecord 0b011101) (.alu011101 0x1234 0xABCD) ∧
    Codes (aluRecord 0b011110) (.alu011110 0x1234 0xABCD) ∧
    Codes (aluRecord 0b011111) (.alu011111 0x1234 0xABCD) := by decide
theorem test_codes_alu_rows_zeroAndY :
    Codes (aluRecord 0b100000) (.alu100000 0x1234 0xABCD) ∧
    Codes (aluRecord 0b100001) (.alu100001 0x1234 0xABCD) ∧
    Codes (aluRecord 0b100010) (.alu100010 0x1234 0xABCD) ∧
    Codes (aluRecord 0b100011) (.alu100011 0x1234 0xABCD) ∧
    Codes (aluRecord 0b100100) (.alu100100 0x1234 0xABCD) ∧
    Codes (aluRecord 0b100101) (.alu100101 0x1234 0xABCD) ∧
    Codes (aluRecord 0b100110) (.alu100110 0x1234 0xABCD) ∧
    Codes (aluRecord 0b100111) (.alu100111 0x1234 0xABCD) := by decide
theorem test_codes_alu_rows_zeroAndConstantY :
    Codes (aluRecord 0b101000) (.alu101000 0x1234 0xABCD) ∧
    Codes (aluRecord 0b101001) (.alu101001 0x1234 0xABCD) ∧
    Codes (aluRecord 0b101010) (.alu101010 0x1234 0xABCD) ∧
    Codes (aluRecord 0b101011) (.alu101011 0x1234 0xABCD) ∧
    Codes (aluRecord 0b101100) (.alu101100 0x1234 0xABCD) ∧
    Codes (aluRecord 0b101101) (.alu101101 0x1234 0xABCD) ∧
    Codes (aluRecord 0b101110) (.alu101110 0x1234 0xABCD) ∧
    Codes (aluRecord 0b101111) (.alu101111 0x1234 0xABCD) := by decide
theorem test_codes_alu_rows_onesAndY :
    Codes (aluRecord 0b110000) (.alu110000 0x1234 0xABCD) ∧
    Codes (aluRecord 0b110001) (.alu110001 0x1234 0xABCD) ∧
    Codes (aluRecord 0b110010) (.alu110010 0x1234 0xABCD) ∧
    Codes (aluRecord 0b110011) (.alu110011 0x1234 0xABCD) ∧
    Codes (aluRecord 0b110100) (.alu110100 0x1234 0xABCD) ∧
    Codes (aluRecord 0b110101) (.alu110101 0x1234 0xABCD) ∧
    Codes (aluRecord 0b110110) (.alu110110 0x1234 0xABCD) ∧
    Codes (aluRecord 0b110111) (.alu110111 0x1234 0xABCD) := by decide
theorem test_codes_alu_rows_onesAndConstantY :
    Codes (aluRecord 0b111000) (.alu111000 0x1234 0xABCD) ∧
    Codes (aluRecord 0b111001) (.alu111001 0x1234 0xABCD) ∧
    Codes (aluRecord 0b111010) (.alu111010 0x1234 0xABCD) ∧
    Codes (aluRecord 0b111011) (.alu111011 0x1234 0xABCD) ∧
    Codes (aluRecord 0b111100) (.alu111100 0x1234 0xABCD) ∧
    Codes (aluRecord 0b111101) (.alu111101 0x1234 0xABCD) ∧
    Codes (aluRecord 0b111110) (.alu111110 0x1234 0xABCD) ∧
    Codes (aluRecord 0b111111) (.alu111111 0x1234 0xABCD) := by decide

/-- `WR`: the control word is the `write` line (R82). -/
theorem test_codes_latch_and_register :
    Codes [21, 0, 0b0, 0, 1, 0] (.latchLoadRead true) ∧ Codes [21, 0, 0b1, 0, 1, 0] (.latchLoadWrite true) ∧
    Codes [22, 0, 0b0, 0, 0xEF, 0xBE] (.registerLoadRead ⟨0, by decide⟩ 0xBEEF) ∧
    Codes [22, 1, 0b1, 0, 0xEF, 0xBE] (.registerLoadWrite ⟨1, by decide⟩ 0xBEEF) := by decide
/-- `RAMw`: `write` above the address bits (R83); addresses as V-RAM writes them. -/
theorem test_codes_small_rams :
    Codes [23, 0, 0b0101, 0, 0x05, 0x0A] (.ram8LoadRead 0b101 0x0A05) ∧
    Codes [23, 0, 0b1101, 0, 0x05, 0x0A] (.ram8LoadWrite 0b101 0x0A05) ∧
    Codes [24, 0, 0b0101101, 0, 0x45, 0x06] (.ram64LoadRead 0b101101 0x0645) ∧
    Codes [24, 0, 0b1101101, 0, 0x45, 0x06] (.ram64LoadWrite 0b101101 0x0645) ∧
    Codes [25, 0, 0b00101100, 0b01, 0x00, 0x53] (.ram512LoadRead 0b100101100 0x5300) ∧
    Codes [25, 0, 0b00101100, 0b11, 0x00, 0x53] (.ram512LoadWrite 0b100101100 0x5300) := by decide
theorem test_codes_large_rams :
    Codes [26, 0, 0b10111100, 0b01010, 0xBC, 0x4A] (.ram4KLoadRead 0b101010111100 0x4ABC) ∧
    Codes [26, 0, 0b10111100, 0b11010, 0xBC, 0x4A] (.ram4KLoadWrite 0b101010111100 0x4ABC) ∧
    Codes [27, 0, 0b11111111, 0b001111, 0xFF, 0xFF] (.ram8KLoadRead 0b0111111111111 0xFFFF) ∧
    Codes [27, 0, 0b00000000, 0b110000, 0x11, 0x11] (.ram8KLoadWrite 0b1000000000000 0x1111) ∧
    Codes [28, 0, 0b00111001, 0b0110000, 0x39, 0x30] (.ram16KLoadRead 0b11000000111001 0x3039) ∧
    Codes [28, 0, 0b00111001, 0b1110000, 0x39, 0x30] (.ram16KLoadWrite 0b11000000111001 0x3039) := by decide
/-- `PC3`: packed `reset load inc` (R84); all eight control words. -/
theorem test_codes_program_counter :
    Codes [29, 0, 0b000, 0, 0x34, 0x12] (.pcHold 0x1234) ∧ Codes [29, 0, 0b001, 0, 0x34, 0x12] (.pcInc 0x1234) ∧
    Codes [29, 0, 0b010, 0, 0x34, 0x12] (.pcLoad false 0x1234) ∧ Codes [29, 0, 0b011, 0, 0x34, 0x12] (.pcLoad true 0x1234) ∧
    Codes [29, 0, 0b100, 0, 0x34, 0x12] (.pcReset false false 0x1234) ∧
    Codes [29, 0, 0b101, 0, 0x34, 0x12] (.pcReset false true 0x1234) ∧
    Codes [29, 0, 0b110, 0, 0x34, 0x12] (.pcReset true false 0x1234) ∧
    Codes [29, 0, 0b111, 0, 0x34, 0x12] (.pcReset true true 0x1234) := by decide
/-- Records that are no call are refused by name (U1). -/
theorem test_decode_refuses_by_name :
    decode [] = .error .truncated ∧ decode [20, 0, 0, 0, 1, 2, 3] = .error .truncated ∧
    decode [30, 0, 0, 0] = .error .unknownOperation ∧ decode [22, 2, 0, 0, 0, 0] = .error .noSuchUnit ∧
    decode [23, 0, 0b10000, 0, 0, 0] = .error .controlTooWide ∧ decode [0, 0, 0, 0, 2, 0, 0, 0] = .error .argumentTooWide := by
  decide
/-- A call with too few arguments, which no record can say. -/
theorem test_call_refuses_too_few_arguments : (Call.mk .add16 0 [1]).toInstr = .error .wrongArgumentCount := by decide
/-- Bare words of the table, in the order of `tableOrder`. -/
theorem test_decodeTableWord :
    decodeTableWord 8 0b111111 = some (.alu111111 0 0) ∧ decodeTableWord 8 0b1001000 = some (.ram64LoadWrite 0b001000 0) ∧
    decodeTableWord 16 0b100000000000000 = some (.ram16KLoadWrite 0 0) ∧ decodeTableWord 0 0 = some (.nand false false) := by
  decide
/-- The word placed for the next step is the one that runs (S5 with both operands zero: `out = 1`). -/
theorem test_withFetchWord_runs_the_word :
    returned (step (State.reset.withFetchWord 8 0b111111)) = some (.alu 0x0001 false false) := by decide

/-! ### Primitive Logic and adders (V-PRIM, V-ARITH) -/

theorem test_nand : returned (exec (.nand true true) used) = some (.signal false) := by decide
theorem test_nand_false : returned (exec (.nand false true) used) = some (.signal true) := by decide
theorem test_not : returned (exec (.not false) used) = some (.signal true) := by decide
theorem test_and : returned (exec (.and true true) used) = some (.signal true) := by decide
theorem test_or : returned (exec (.or true false) used) = some (.signal true) := by decide
theorem test_xor : returned (exec (.xor true true) used) = some (.signal false) := by decide
theorem test_mux_takes_b : returned (exec (.mux false true true) used) = some (.signal true) := by decide
theorem test_mux_takes_a : returned (exec (.mux false true false) used) = some (.signal false) := by decide
theorem test_dmux_low : returned (exec (.dmux true false) used) = some (.dmux2 true false) := by decide
theorem test_dmux_high : returned (exec (.dmux true true) used) = some (.dmux2 false true) := by decide
theorem test_not16 : returned (exec (.not16 0x0F0F) used) = some (.word 0xF0F0) := by decide
theorem test_and16 : returned (exec (.and16 0x0F0F 0x3355) used) = some (.word 0x0305) := by decide
theorem test_or16 : returned (exec (.or16 0x0F0F 0x3355) used) = some (.word 0x3F5F) := by decide
theorem test_mux16 : returned (exec (.mux16 0x0F0F 0x3355 true) used) = some (.word 0x3355) := by decide
theorem test_or8way : returned (exec (.or8way 0b00010000) used) = some (.signal true) := by decide
theorem test_or8way_none : returned (exec (.or8way 0b00000000) used) = some (.signal false) := by decide
theorem test_mux4way16 :
    returned (exec (.mux4way16 0x1000 0x1111 0x1222 0x1333 0b10) used) = some (.word 0x1222) := by decide
theorem test_mux8way16 :
    returned (exec (.mux8way16 0x1000 0x1111 0x1222 0x1333 0x1444 0x1555 0x1666 0x1777 0b011) used) = some (.word 0x1333) := by
  decide
theorem test_mux8way16_high :
    returned (exec (.mux8way16 0x1000 0x1111 0x1222 0x1333 0x1444 0x1555 0x1666 0x1777 0b110) used) = some (.word 0x1666) := by
  decide
theorem test_dmux4way :
    returned (exec (.dmux4way true 0b01) used) = some (.dmux4 #v[false, true, false, false]) := by decide
theorem test_dmux8way : returned (exec (.dmux8way true 0b110) used) =
    some (.dmux8 #v[false, false, false, false, false, false, true, false]) := by decide
theorem test_half_adder : returned (exec (.halfAdder true true) used) = some (.sumCarry false true) := by decide
theorem test_full_adder : returned (exec (.fullAdder true false true) used) = some (.sumCarry false true) := by decide
theorem test_full_adder_all : returned (exec (.fullAdder true true true) used) = some (.sumCarry true true) := by decide
theorem test_add16_wraps : returned (exec (.add16 0xFFFF 0x0001) used) = some (.word 0x0000) := by decide
theorem test_add16 : returned (exec (.add16 0x1234 0xABCD) used) = some (.word 0xBE01) := by decide
theorem test_inc16 : returned (exec (.inc16 0x00FF) used) = some (.word 0x0100) := by decide
theorem test_inc16_wraps : returned (exec (.inc16 0xFFFF) used) = some (.word 0x0000) := by decide

/-! ### The ALU (V-ALU, column pair A: `x = 0x1234`, `y = 0xABCD`; and S4, S5) -/

/-- An ALU row's answer on pair A. -/
abbrev AnswersA (row : Word → Word → Instr) (out : Word) (zr ng : Signal) : Prop :=
  returned (exec (row 0x1234 0xABCD) used) = some (.alu out zr ng)

theorem test_alu_rows_xAndY :
    AnswersA .alu000000 0x0204 false false ∧
    AnswersA .alu000001 0xFDFB false true ∧
    AnswersA .alu000010 0xBE01 false true ∧
    AnswersA .alu000011 0x41FE false false ∧
    AnswersA .alu000100 0x1030 false false ∧
    AnswersA .alu000101 0xEFCF false true ∧
    AnswersA .alu000110 0x6666 false false ∧
    AnswersA .alu000111 0x9999 false true := by decide
theorem test_alu_rows_xAndConstantY :
    AnswersA .alu001000 0x0000 true false ∧
    AnswersA .alu001001 0xFFFF false true ∧
    AnswersA .alu001010 0x1234 false false ∧
    AnswersA .alu001011 0xEDCB false true ∧
    AnswersA .alu001100 0x1234 false false ∧
    AnswersA .alu001101 0xEDCB false true ∧
    AnswersA .alu001110 0x1233 false false ∧
    AnswersA .alu001111 0xEDCC false true := by decide
theorem test_alu_rows_notXAndY :
    AnswersA .alu010000 0xA9C9 false true ∧
    AnswersA .alu010001 0x5636 false false ∧
    AnswersA .alu010010 0x9998 false true ∧
    AnswersA .alu010011 0x6667 false false ∧
    AnswersA .alu010100 0x4402 false false ∧
    AnswersA .alu010101 0xBBFD false true ∧
    AnswersA .alu010110 0x41FD false false ∧
    AnswersA .alu010111 0xBE02 false true := by decide
theorem test_alu_rows_notXAndConstantY :
    AnswersA .alu011000 0x0000 true false ∧
    AnswersA .alu011001 0xFFFF false true ∧
    AnswersA .alu011010 0xEDCB false true ∧
    AnswersA .alu011011 0x1234 false false ∧
    AnswersA .alu011100 0xEDCB false true ∧
    AnswersA .alu011101 0x1234 false false ∧
    AnswersA .alu011110 0xEDCA false true ∧
    AnswersA .alu011111 0x1235 false false := by decide
theorem test_alu_rows_zeroAndY :
    AnswersA .alu100000 0x0000 true false ∧
    AnswersA .alu100001 0xFFFF false true ∧
    AnswersA .alu100010 0xABCD false true ∧
    AnswersA .alu100011 0x5432 false false ∧
    AnswersA .alu100100 0x0000 true false ∧
    AnswersA .alu100101 0xFFFF false true ∧
    AnswersA .alu100110 0x5432 false false ∧
    AnswersA .alu100111 0xABCD false true := by decide
theorem test_alu_rows_zeroAndConstantY :
    AnswersA .alu101000 0x0000 true false ∧
    AnswersA .alu101001 0xFFFF false true ∧
    AnswersA .alu101010 0x0000 true false ∧
    AnswersA .alu101011 0xFFFF false true ∧
    AnswersA .alu101100 0x0000 true false ∧
    AnswersA .alu101101 0xFFFF false true ∧
    AnswersA .alu101110 0xFFFF false true ∧
    AnswersA .alu101111 0x0000 true false := by decide
theorem test_alu_rows_onesAndY :
    AnswersA .alu110000 0xABCD false true ∧
    AnswersA .alu110001 0x5432 false false ∧
    AnswersA .alu110010 0xABCC false true ∧
    AnswersA .alu110011 0x5433 false false ∧
    AnswersA .alu110100 0x5432 false false ∧
    AnswersA .alu110101 0xABCD false true ∧
    AnswersA .alu110110 0x5431 false false ∧
    AnswersA .alu110111 0xABCE false true := by decide
theorem test_alu_rows_onesAndConstantY :
    AnswersA .alu111000 0x0000 true false ∧
    AnswersA .alu111001 0xFFFF false true ∧
    AnswersA .alu111010 0xFFFF false true ∧
    AnswersA .alu111011 0x0000 true false ∧
    AnswersA .alu111100 0xFFFF false true ∧
    AnswersA .alu111101 0x0000 true false ∧
    AnswersA .alu111110 0xFFFE false true ∧
    AnswersA .alu111111 0x0001 false false := by decide

/-- S4 (R235). -/
theorem test_alu_constant_zero : returned (exec (.alu101010 0x0000 0xFFFF) used) = some (.alu 0x0000 true false) := by decide
/-- S5 (R235). -/
theorem test_alu_constant_one : returned (exec (.alu111111 0x0000 0xFFFF) used) = some (.alu 0x0001 false false) := by decide
/-- V-ALU, corner cases: the most negative value is its own negation. -/
theorem test_alu_negates_the_most_negative :
    returned (exec (.alu001111 0x8000 0x1111) used) = some (.alu 0x8000 false true) := by decide
/-- V-ALU, corner cases: equal operands give `zr`. -/
theorem test_alu_subtracts_equal_operands :
    returned (exec (.alu010011 0x0005 0x0005) used) = some (.alu 0x0000 true false) := by decide

/-! ### Latch, Register, RAM, Program Counter (V-REG, S6, S7, V-RAM, V-PC) -/

theorem test_latch_read_ignores_input :
    after (exec (.latchLoadRead false) used) = some { used with result := .signal true } := by decide
theorem test_latch_write :
    after (exec (.latchLoadWrite false) used) = some { used with latch := false, result := .signal false } := by decide
theorem test_register_read_ignores_input :
    after (exec (.registerLoadRead ⟨0, by decide⟩ 0x5A5A) used) = some { used with result := .word 0xBEEF } := by decide
theorem test_register_write :
    after (exec (.registerLoadWrite ⟨1, by decide⟩ 0x8001) used) =
      some { used with regs := #v[0xBEEF#16, 0x8001#16], result := .word 0x8001 } := by decide
theorem test_ram8_read :
    after (exec (.ram8LoadRead 0b101 0xFFFF) used) = some { used with result := .word 0x0A05 } := by decide
theorem test_ram8_write : after (exec (.ram8LoadWrite 0b111 0x0A07) used) =
    some { used with ram8 := [(5, 0x0A05#16), (7, 0x0A07#16)], result := .word 0x0A07 } := by decide
theorem test_ram64_read :
    after (exec (.ram64LoadRead 0b101111 0xFFFF) used) = some { used with result := .word 0x0000 } := by decide
theorem test_ram64_write : after (exec (.ram64LoadWrite 0b001000 0x0608) used) =
    some { used with ram64 := [(8, 0x0608#16), (45, 0x0645#16)], result := .word 0x0608 } := by decide
/-- 44 has the low six bits of 300. -/
theorem test_ram512_read :
    after (exec (.ram512LoadRead 0b000101100 0x0000) used) = some { used with result := .word 0x0000 } := by decide
theorem test_ram512_write : after (exec (.ram512LoadWrite 0b100101100 0x0B05) used) =
    some { used with ram512 := [(300, 0x0B05#16)], result := .word 0x0B05 } := by decide
theorem test_ram4K_read :
    after (exec (.ram4KLoadRead 0b101010111100 0x0000) used) = some { used with result := .word 0x4ABC } := by decide
theorem test_ram4K_write : after (exec (.ram4KLoadWrite 0b001000000000 0x4512) used) =
    some { used with ram4K := [(511, 0x4511#16), (512, 0x4512#16), (2748, 0x4ABC#16)], result := .word 0x4512 } := by decide
theorem test_ram8K_read :
    after (exec (.ram8KLoadRead 0b1000000000000 0x0000) used) = some { used with result := .word 0x1111 } := by decide
/-- S7b t4: writing zeros over a Word leaves its neighbour, and takes the cell off the list. -/
theorem test_ram8K_write_zeros : after (exec (.ram8KLoadWrite 0b1000000000000 0x0000) used) =
    some { used with ram8K := [(4095, 0xFFFF#16)], result := .word 0x0000 } := by decide
theorem test_ram16K_read :
    after (exec (.ram16KLoadRead 0b11000000111001 0x0000) used) = some { used with result := .word 0x3039 } := by decide
theorem test_ram16K_write : after (exec (.ram16KLoadWrite 0b01000000000000 0x2222) used) =
    some { used with ram16K := [(4095, 0xFFFF#16), (4096, 0x2222#16), (12345, 0x3039#16)], result := .word 0x2222 } := by decide
set_option maxRecDepth 4000 in
theorem test_pc_reset :
    after (exec (.pcReset true true 0x1234) used) = some { used with pc := 0x0000, result := .word 0x0000 } := by decide
set_option maxRecDepth 4000 in
theorem test_pc_load :
    after (exec (.pcLoad true 0x1234) used) = some { used with pc := 0x1234, result := .word 0x1234 } := by decide
set_option maxRecDepth 4000 in
theorem test_pc_inc :
    after (exec (.pcInc 0x1234) used) = some { used with pc := 0x0008, result := .word 0x0008 } := by decide
set_option maxRecDepth 4000 in
theorem test_pc_inc_wraps :
    after (exec (.pcInc 0x0000) { used with pc := 0xFFFF }) = some { used with pc := 0x0000, result := .word 0x0000 } := by decide
theorem test_pc_hold :
    after (exec (.pcHold 0x1234) used) = some { used with result := .word 0x0007 } := by decide

/-! ### The recursive node, the memory, the script -/

/-- V-RAM, address 45 of a Ram64: Ram8 child 5, Register 5. -/
theorem test_ram64_child_indices :
    localSelector 3 3 (0b101101 : BitVec 6) = 5 ∧ forwardedAddress 3 (0b101101 : BitVec 6) = 5 := by decide
/-- The recursive Ram8 of R265 returns what it is given to write, and holds it. -/
theorem test_ram8_node_write :
    (ram8NodeLoad ram8NodeReset 0x0A05 true 0b101).1 = 0x0A05 ∧
    (ram8NodeLoad ram8NodeReset 0x0A05 true 0b101).2[5] = 0x0A05 ∧
    (ram8NodeLoad ram8NodeReset 0x0A05 true 0b101).2[4] = 0x0000 := by decide
/-- A list out of order, one with a Word of zeros, and one past the capacity are not canonical. -/
theorem test_memoryWf_refuses :
    memoryWf 8 [(5, 1), (3, 1)] = false ∧ memoryWf 8 [(5, 0)] = false ∧ memoryWf 8 [(8, 1)] = false := by decide
/-- A name bound by one call is an argument of the next: `s = add16(3, 2)`, then `x[0].load(s, 1)` (R100). -/
theorem test_script_binds_results :
    (match runCycle [⟨some 0, .add16, 0, [.literal 3, .literal 2]⟩, ⟨none, .registerLoad, 0, [.output 0 0, .literal 1]⟩] [] []
        State.reset with
      | .ok (_, t) => some t.regs
      | .error _ => none) = some #v[0x0005#16, 0x0000#16] := by decide
/-- A step with no call left holds; one whose record is no call is refused by its name. -/
theorem test_step_outside_the_calls :
    after (step used) = some used ∧
    refusal (step { used with script := [30, 0, 0, 0] }) = some (.rejectedCall .unknownOperation) := by decide

/-! ### Other values of the arguments `NREG` and `TOP_RAM_TIER` (R7, D11) -/

/-- A machine of five Registers that has been used. -/
def usedFive : State 5 :=
  { State.construct 5 with
    regs := #v[0, 0, 0, 0, 0xBEEF#16], ram64 := [(45, 0x0645#16)] }

/-- Register 4 exists when `NREG` is 5, and not when it is 2. -/
theorem test_unit_number_follows_nreg :
    decode [22, 4, 0b1, 0, 0x34, 0x12] 5 = .ok (.registerLoadWrite 4 0x1234, []) ∧
    decode [22, 4, 0b1, 0, 0x34, 0x12] = .error .noSuchUnit := by decide
/-- R241 on Register 4 of five. -/
theorem test_register_write_of_five :
    (match execAt (.registerLoadWrite 4 0x1234) usedFive with
      | .next t => some (t.regs, t.result)
      | _ => none) = some (#v[0, 0, 0, 0, 0x1234#16], .word 0x1234) := by decide
/-- With `TOP_RAM_TIER` Ram64, `ram.read(45)` reads the Ram64 (R101). -/
theorem test_ram_read_of_another_tier :
    (match execAt (pseudoRamRead .ram64 0b101101) usedFive with
      | .next t => some t.result
      | _ => none) = some (.word 0x0645) := by decide

/-! ### Witnesses: for each statement with hypotheses, a state and operands that meet them -/

/-- `StateWf` holds of a state in which every memory lists something (`RamLoadsReadOrWriteOneWholeCell`,
`RamAddressesAreIsolated`, `StepKeepsMemoriesCanonical`). -/
theorem witness_stateWf : StateWf used := by
  intro t; cases t <;> decide
/-- `EveryRegisterCountKeepsTheRules`, `EveryTopTierIsTheAggregatesRam`: canonical memories at another `NREG`, and a step and a
call from there. -/
theorem witness_other_census : StateWf usedFive ∧ (∃ t, stepAt usedFive = .next t) ∧
    ∃ t, execAt (.registerLoadWrite 4 1) usedFive = .next t ∧
      (.registerLoadWrite 4 1 : Instr 5).component? ≠ some (.ram .ram64) :=
  ⟨by intro t; cases t <;> decide, ⟨_, rfl⟩, _, rfl, by decide⟩
/-- `WrittenValuesAreReadBack`: lists of holds. -/
theorem witness_holds : [true, false] ≠ [] ∧ [0x5A5A#16] ≠ [] := by decide
/-- `StepKeepsMemoriesCanonical`: a step of that state that writes to a memory. -/
theorem witness_step_answers_next :
    (after (step { used with script := [23, 0, 0b1111, 0, 0x07, 0x0A] })).isSome = true := by decide
/-- The Ram8 node that `used` represents. -/
def usedRam8 : Ram8Node := #v[0, 0, 0, 0, 0, 0x0A05#16, 0, 0]
/-- `RamTiersRefineTheRecursiveNode`: a state and a node that go together and are not empty. -/
theorem witness_represents_ram8 : Represents .ram8 ram8Cell used usedRam8 := by
  unfold Represents; decide
/-- A machine whose counter has moved and whose memories are empty. -/
def moved : State := { State.reset with pc := 0x0007#16 }
/-- `RamTiersRefineTheRecursiveNode`, the other five tiers: a canonical state and the fresh nodes it goes with. -/
theorem witness_represents_fresh : StateWf moved ∧
    Represents .ram64 ram64Cell moved ram64NodeReset ∧ Represents .ram512 ram512Cell moved ram512NodeReset ∧
    Represents .ram4K ram4KCell moved ram4KNodeReset ∧ Represents .ram8K ram8KCell moved ram8KNodeReset ∧
    Represents .ram16K ram16KCell moved ram16KNodeReset := by
  refine ⟨?_, ?_, ?_, ?_, ?_, ?_⟩
  · intro t; cases t <;> rfl
  all_goals
    intro a
    simp [ram16KCell, ram8KCell, ram4KCell, ram512Cell, ram64Cell, ram8Cell, childAt, ram16KNodeReset, ram8KNodeReset,
        ram4KNodeReset, ram512NodeReset, ram64NodeReset, ram8NodeReset]
    rfl
/-- `CanonicalMemoriesAreArrays`: a canonical memory that lists the last cell and the first. -/
theorem witness_memoryWf : memoryWf 8 [(0, 1), (7, 0xFFFF)] = true := by decide
/-- `HoldsNeverChangeState`, `UncalledComponentsHold`: the four kinds of hold. -/
theorem witness_isHold :
    isHold (.latchLoadRead true : Instr) = true ∧ isHold (.registerLoadRead ⟨0, by decide⟩ 1 : Instr) = true ∧
    isHold (.ram16KLoadRead 0 1 : Instr) = true ∧ isHold (.pcHold 1 : Instr) = true := by decide
/-- `OnlyOwnWriteChangesLatchOrRegister`: a call that changes the Latch, and one that changes a Register. -/
theorem witness_own_writes :
    ∃ t u : State, exec (.latchLoadWrite false) used = .next t ∧ t.latch ≠ used.latch ∧
      exec (.registerLoadWrite ⟨1, by decide⟩ 0x8001) used = .next u ∧
      u.regs[(⟨1, by decide⟩ : Fin Config.nreg)] ≠ used.regs[(⟨1, by decide⟩ : Fin Config.nreg)] :=
  ⟨_, _, rfl, by decide, rfl, by decide⟩
set_option maxRecDepth 4000 in
/-- `ProgramCounterMovesOnlyByItsOwnCall`: a call that moves the counter. -/
theorem witness_counter_moves : ∃ t : State, exec (.pcInc 0) used = .next t ∧ t.pc ≠ used.pc := ⟨_, rfl, by decide⟩
/-- `CallsTouchOnlyTheirOwnComponent`: a call on one component, and another component. -/
theorem witness_other_component :
    ∃ t : State, exec (.ram8LoadWrite 7 1) used = .next t ∧
      (Instr.ram8LoadWrite 7 1 : Instr).component? ≠ some (.ram .ram64) := ⟨_, rfl, by decide⟩
/-- `UncalledComponentsHold`: two calls, neither on the Latch. -/
theorem witness_uncalled :
    ∃ t : State, runCalls [.pcInc 0, .ram8LoadWrite 7 1] used = .next t ∧
      ∀ i ∈ ([.pcInc 0, .ram8LoadWrite 7 1] : List Instr), i.component? ≠ some .latch := ⟨_, rfl, by decide⟩
/-- `OrderWithinACycleIsNotObservable`, `ScriptedCyclesRunTheirCalls`: a cycle of three calls and another order of it. -/
theorem witness_cycle :
    cycleWellFormed ([.pcInc 0, .latchLoadWrite true, .ram8LoadWrite 7 1] : List Instr) = true ∧
    List.Perm [(.pcInc 0 : Instr), .latchLoadWrite true, .ram8LoadWrite 7 1]
      [.latchLoadWrite true, .pcInc 0, .ram8LoadWrite 7 1] := ⟨by decide, List.Perm.swap _ _ _⟩
/-- `ScriptedCyclesRunTheirCalls`, second clause: a cycle that calls the counter twice. -/
theorem witness_ill_formed_cycle : cycleWellFormed ([.pcInc 0, .pcHold 0] : List Instr) = false := by decide
/-- `EveryDecodedRecordIsAnEncoding`, `StepMakesTheDecodedCall`: bytes that decode, with bytes after them. -/
theorem witness_decodes :
    decode [19, 0, 0, 0, 0xFF, 0x7F, 0xAA] = .ok (.inc16 0x7FFF, [0xAA]) := by decide
/-- `StepWithoutACallHoldsOrRefuses`: a state for each clause. -/
theorem witness_no_call :
    State.reset.script = [] ∧ ({ used with script := [0xFF] } : State).script ≠ [] ∧
    decode ({ used with script := [0xFF] } : State).script = .error .truncated := by decide
/-- `FetchedTableWordsRun`: a word that stands for a row. -/
theorem witness_table_word : decodeTableWord 16 0b1000000000000 = some (.ram4KLoadWrite 0 0) := by decide

end Sys2Proof.Tests
end

section
/-! SUPPORT. What a call leaves unchanged and what a step can do, said once for every number of Registers: every call
completes, touches its own component alone, is blind to the pending records, and keeps the canonical form. -/

namespace Sys2Proof.Machine

variable {nreg : Nat}

/-! ### The frame of a call -/

/-- A part of the state is the same as itself. -/
@[simp] theorem SameAt.refl (c : Component nreg) (s : State nreg) : SameAt c s s := by cases c <;> rfl

/-- Recording what was returned changes no part of the hardware. -/
@[simp] theorem sameAt_answer (c : Component nreg) (r : CallResult) (s t : State nreg) :
    SameAt c s (answer r t) ↔ SameAt c s t := by
  cases c <;> simp [SameAt]

/-- Setting the Latch leaves every other component (R66). -/
theorem sameAt_set_latch {c : Component nreg} (h : c ≠ .latch) (q : Signal) (s : State nreg) :
    SameAt c s { s with latch := q } := by
  cases c with
  | latch => exact absurd rfl h
  | register k => rfl
  | ram t => exact (ramOf_set_latch t s q).symm
  | pc => rfl

/-- Setting one Register leaves every other component, the other Registers included (R66). -/
theorem sameAt_set_register {c : Component nreg} {k : Fin nreg} (h : c ≠ .register k) (w : Word) (s : State nreg) :
    SameAt c s { s with regs := s.regs.set k w } := by
  cases c with
  | latch => rfl
  | register j =>
    have hkj : (k : Nat) ≠ j := fun e => h (congrArg Component.register (Fin.ext e.symm))
    exact (Vector.getElem_set_ne k.isLt j.isLt hkj).symm
  | ram t => exact (ramOf_set_regs t s _).symm
  | pc => rfl

/-- Setting one RAM leaves every other component, the other tiers included (R66). -/
theorem sameAt_setRam {c : Component nreg} {t : Tier} (h : c ≠ .ram t) (m : Memory) (s : State nreg) :
    SameAt c s (setRam t m s) := by
  cases c with
  | latch => exact (setRam_latch t m s).symm
  | register k => simp [SameAt]
  | ram u =>
    have hu : u ≠ t := fun e => h (congrArg Component.ram e)
    exact (ramOf_setRam_other hu m s).symm
  | pc => exact (setRam_pc t m s).symm

/-- Setting the counter leaves every other component (R66). -/
theorem sameAt_set_pc {c : Component nreg} (h : c ≠ .pc) (w : Word) (s : State nreg) :
    SameAt c s { s with pc := w } := by
  cases c with
  | latch => rfl
  | register k => rfl
  | ram t => exact (ramOf_set_pc t s w).symm
  | pc => exact absurd rfl h

/-- Every call completes, changes no component but its own, and leaves the pending records (R66, R330). -/
theorem execAt_frame (i : Instr nreg) (s : State nreg) : ∃ t : State nreg, execAt i s = .next t ∧
    (∀ c : Component nreg, i.component? ≠ some c → SameAt c s t) ∧ t.script = s.script := by
  obtain ⟨-, r, h⟩ | ⟨input, write, -, hc, h⟩ | ⟨k, input, write, -, hc, h⟩ | ⟨u, write, a, input, -, hc, h⟩ |
    ⟨input, load, inc, reset, -, hc, h⟩ := execAt_cases i
  · exact ⟨_, h s, fun c _ => by simp, rfl⟩
  · refine ⟨_, h s, fun c hne => (sameAt_answer ..).mpr (sameAt_set_latch ?_ _ s), rfl⟩
    rintro rfl; exact hne hc
  · refine ⟨_, h s, fun c hne => (sameAt_answer ..).mpr (sameAt_set_register ?_ _ s), rfl⟩
    rintro rfl; exact hne hc
  · refine ⟨_, h s, fun c hne => (sameAt_answer ..).mpr (sameAt_setRam ?_ _ s), setRam_script ..⟩
    rintro rfl; exact hne hc
  · refine ⟨_, h s, fun c hne => (sameAt_answer ..).mpr (sameAt_set_pc ?_ _ s), rfl⟩
    rintro rfl; exact hne hc

/-- Every call answers a next state (R330). -/
theorem execAt_completes (i : Instr nreg) (s : State nreg) : ∃ t : State nreg, execAt i s = .next t :=
  (execAt_frame i s).imp fun _ h => h.1

/-- A call that answers `t` changed no component but its own (R66). -/
theorem sameAt_of_execAt {i : Instr nreg} {s t : State nreg} (h : execAt i s = .next t) {c : Component nreg}
    (hc : i.component? ≠ some c) : SameAt c s t := by
  obtain ⟨t', h', hframe, -⟩ := execAt_frame i s
  obtain rfl : t' = t := Host.Outcome.next.inj (h'.symm.trans h)
  exact hframe c hc

/-! ### Calls and the pending records -/

/-- Replacing the pending records and setting a RAM commute. -/
theorem setRam_withScript (t : Tier) (m : Memory) (b : List Byte) (s : State nreg) :
    setRam t m (withScript b s) = withScript b (setRam t m s) := by cases t <;> rfl

/-- No call reads or writes the pending records: made with other records pending, it answers the same state with those
records (R375). -/
theorem execAt_withScript {i : Instr nreg} {s t : State nreg} (b : List Byte) (h : execAt i s = .next t) :
    execAt i (withScript b s) = .next (withScript b t) := by
  obtain ⟨-, r, hi⟩ | ⟨input, write, -, -, hi⟩ | ⟨k, input, write, -, -, hi⟩ | ⟨u, write, a, input, -, -, hi⟩ |
    ⟨input, load, inc, reset, -, -, hi⟩ := execAt_cases i
  all_goals
    rw [hi] at h ⊢
    obtain rfl := Host.Outcome.next.inj h
  case inr.inr.inr.inl => simp only [ramCall, ramOf_withScript, setRam_withScript]; rfl
  all_goals rfl

/-! ### The canonical form along calls and steps -/

/-- A tier's capacity is the number of its addresses (R261). -/
theorem Tier.capacity_eq (t : Tier) : t.capacity = 2 ^ t.addressWidth := by cases t <;> rfl

/-- Setting one RAM to a canonical list keeps the form in all six. -/
theorem StateWf.of_setRam {s : State nreg} (h : StateWf s) {t : Tier} {m : Memory} (hm : memoryWf t.capacity m = true) :
    StateWf (setRam t m s) := by
  intro u
  by_cases hu : u = t
  · rw [hu, ramOf_setRam_same]; exact hm
  · rw [ramOf_setRam_other hu]; exact h u

/-- The canonical form speaks of the six RAMs alone. -/
theorem StateWf.of_ramOf {s t : State nreg} (h : StateWf s) (hr : ∀ u : Tier, ramOf u t = ramOf u s) : StateWf t :=
  fun u => by rw [hr u]; exact h u

/-- Every call keeps the canonical form. -/
theorem StateWf.of_execAt {i : Instr nreg} {s t : State nreg} (hs : StateWf s) (h : execAt i s = .next t) :
    StateWf t := by
  obtain ⟨-, r, hi⟩ | ⟨input, write, -, -, hi⟩ | ⟨k, input, write, -, -, hi⟩ | ⟨u, write, a, input, -, -, hi⟩ |
    ⟨input, load, inc, reset, -, -, hi⟩ := execAt_cases i
  all_goals
    rw [hi] at h
    obtain rfl := Host.Outcome.next.inj h
  · exact hs.of_ramOf fun u => ramOf_answer u _ s
  · exact hs.of_ramOf fun u => by simp
  · exact hs.of_ramOf fun u => by simp
  · have ha : a.toNat < u.capacity := by rw [Tier.capacity_eq]; exact a.isLt
    exact (hs.of_setRam (memoryWf_ramLoad input write (hs u) ha)).of_ramOf fun v => ramOf_answer v _ _
  · exact hs.of_ramOf fun u => by simp

/-- A step that answers a next state makes no call, or makes the call that was pending first. -/
theorem stepAt_cases {s t : State nreg} (h : stepAt s = .next t) :
    t = s ∨ ∃ i rest, nextCall s = some (.ok (i, rest)) ∧ execAt i (withScript rest s) = .next t := by
  unfold stepAt at h
  rcases hn : nextCall s with _ | _ | ⟨i, rest⟩ <;> rw [hn] at h
  · exact .inl (Host.Outcome.next.inj h).symm
  · exact nomatch h
  · exact .inr ⟨i, rest, rfl, h⟩

/-- Every step keeps the canonical form. -/
theorem StateWf.of_stepAt {s t : State nreg} (hs : StateWf s) (h : stepAt s = .next t) : StateWf t := by
  obtain rfl | ⟨i, rest, -, hi⟩ := stepAt_cases h
  · exact hs
  · exact (hs.of_ramOf fun u => ramOf_withScript u rest s : StateWf (withScript rest s)).of_execAt hi

/-! ### The construction state -/

/-- Every RAM is empty after construction (R40). -/
@[simp] theorem ramOf_construct (t : Tier) : ramOf t (State.construct nreg) = [] := by cases t <;> rfl

/-! ### Reading a RAM after its own write -/

/-- What the cells of a canonical RAM hold after a write: `input` at its address, everywhere else what they held (R264). -/
theorem readCell_writeCell {cap : Nat} {m : Memory} (h : memoryWf cap m = true) (a b : Nat) (v : Word) :
    readCell (writeCell m a v) b = if b = a then v else readCell m b := by
  split
  case isTrue hab => rw [hab]; exact readCell_writeCell_same h a v
  case isFalse hab => exact readCell_writeCell_other v hab

end Sys2Proof.Machine
end

section
/-! SUPPORT. The record of every instruction reads back as that instruction: the call it packs is in its operation's domain
and names its own row, and the decoder takes exactly that record off the front of the bytes. -/

namespace Sys2Proof.Machine

variable {nreg : Nat}

/-! ### From a call in its domain to its row -/

@[simp] theorem argsFit_nil : argsFit [] [] = true := rfl

@[simp] theorem argsFit_cons (w a : Nat) (ws as : List Nat) :
    argsFit (w :: ws) (a :: as) = true ↔ a < 2 ^ w ∧ argsFit ws as = true := by simp [argsFit]

/-- Arguments that fit are as many as the widths. -/
theorem length_of_argsFit {ws as : List Nat} (h : argsFit ws as = true) : as.length = ws.length := by
  induction ws generalizing as with
  | nil => cases as with
    | nil => rfl
    | cons a as => cases h
  | cons w ws ih => cases as with
    | nil => cases h
    | cons a as => simp [ih ((argsFit_cons w a ws as).mp h).2]

/-- A call on a unit that exists, with arguments that fit, is the row it builds (R57, R331). -/
theorem toInstr_of_build {c : Call} {i : Instr nreg} (hunit : c.unit < c.op.units nreg)
    (hargs : argsFit c.op.argWidths c.args = true) (hbuild : c.build nreg = some i) : c.toInstr nreg = .ok i := by
  simp [Call.toInstr, hunit, hargs, length_of_argsFit hargs, hbuild]

/-! ### Control fields -/

/-- A control bit has width 1. -/
theorem controlBit_lt (control i : Nat) : controlBit control i < 2 ^ 1 := Nat.mod_lt _ (by decide)

/-- The packed control word of a RAM row splits into its write line and its address (R83). -/
theorem ramControl_fields {w : Nat} (hw : w + 1 ≤ 16) (write : BitVec 1) (a : BitVec w) :
    (controlWord (write ++ a)).toNat / 2 ^ w = write.toNat ∧ (controlWord (write ++ a)).toNat % 2 ^ w = a.toNat := by
  rw [controlWord_toNat _ (by omega), BitVec.toNat_append, Nat.shiftLeft_eq, ← Nat.mul_comm (2 ^ w),
    ← Nat.two_pow_add_eq_or_of_lt a.isLt]
  constructor
  · rw [Nat.mul_add_div (Nat.two_pow_pos w), Nat.div_eq_of_lt a.isLt, Nat.add_zero]
  · rw [Nat.mul_add_mod, Nat.mod_eq_of_lt a.isLt]

/-- A Signal argument has width 1. -/
theorem signalNat_lt (a : Signal) : signalNat a < 2 ^ 1 := by cases a <;> decide

/-- A Signal argument is read back. -/
@[simp] theorem argSignal_signalNat (a : Signal) : argSignal (signalNat a) = a := by cases a <;> rfl

/-- A Signal in a control field is read back (R85). -/
@[simp] theorem argSignal_controlWord (a : Signal) : argSignal (controlWord (BitVec.ofBool a)).toNat = a := by
  cases a <;> rfl

/-- A selector in a control field is read back (R85). -/
theorem setWidth_controlWord {n : Nat} (h : n ≤ 16) (bits : BitVec n) : (controlWord bits).setWidth n = bits := by
  rw [controlWord, BitVec.setWidth_setWidth_of_le bits h, BitVec.setWidth_eq]

/-! ### The call each row packs -/

/-- An instruction whose record is an ALU record, and which is the row of that record's six control lines, is named by its
own call (R81). -/
theorem toInstr_of_aluRecord {i : Instr nreg} {control : BitVec 16} {x y : Word}
    (hrecord : i.packed = ⟨.alu, 0, control, [x, y]⟩)
    (hrow : Instr.ofAlu (argSignal (controlBit control.toNat 5)) (argSignal (controlBit control.toNat 4))
      (argSignal (controlBit control.toNat 3)) (argSignal (controlBit control.toNat 2))
      (argSignal (controlBit control.toNat 1)) (argSignal (controlBit control.toNat 0)) x y = i) :
    (Instr.toCall i).toInstr nreg = .ok i := by
  have hcall : Instr.toCall i = ⟨.alu, 0, Format.alu6.unpack control.toNat [x.toNat, y.toNat]⟩ := by
    simp [Instr.toCall, hrecord, Operation.format]
  rw [hcall]
  refine toInstr_of_build Nat.one_pos ?_ ?_
  · simp only [Operation.argWidths, Format.unpack, List.cons_append, List.nil_append, argsFit_cons, argsFit_nil, BitVec.isLt,
      controlBit_lt, and_self]
  · simp [Call.build, Format.unpack, hrow]

/-- The call of a Latch row (R82). -/
theorem toInstr_latch (input write : Signal) :
    (Instr.toCall (Instr.ofWrite write (.latchLoadRead input) (.latchLoadWrite input) : Instr nreg)).toInstr nreg =
      .ok (Instr.ofWrite write (.latchLoadRead input) (.latchLoadWrite input)) := by
  cases input <;> cases write <;> rfl

/-- The call of a Register row (R82). -/
theorem toInstr_register (k : Fin nreg) (input : Word) (write : Signal) :
    (Instr.toCall (Instr.ofWrite write (.registerLoadRead k input) (.registerLoadWrite k input))).toInstr nreg =
      .ok (Instr.ofWrite write (.registerLoadRead k input) (.registerLoadWrite k input)) := by
  have hcall : Instr.toCall (Instr.ofWrite write (.registerLoadRead k input) (.registerLoadWrite k input)) =
      ⟨.registerLoad, k, [input.toNat, signalNat write]⟩ := by cases write <;> rfl
  rw [hcall]
  refine toInstr_of_build k.isLt ?_ ?_
  · simp only [Operation.argWidths, argsFit_cons, argsFit_nil, BitVec.isLt, signalNat_lt, and_self]
  · simp [Call.build]

/-- The `load` of a tier as an operation. -/
def ramOperation : Tier → Operation
  | .ram8 => .ram8Load
  | .ram64 => .ram64Load
  | .ram512 => .ram512Load
  | .ram4K => .ram4KLoad
  | .ram8K => .ram8KLoad
  | .ram16K => .ram16KLoad

/-- A RAM row is the call of its tier's `load` on its input, its write line and its address (R83). -/
theorem toCall_ramRow (t : Tier) (write : Signal) (a : BitVec t.addressWidth) (input : Word) :
    Instr.toCall (ramRow t write a input : Instr nreg) =
      ⟨ramOperation t, 0, [input.toNat, signalNat write, a.toNat]⟩ := by
  have hfields {w : Nat} (hw : w + 1 ≤ 16) (line : BitVec 1) (a : BitVec w) :
      Format.unpack (.ram w) (controlWord (line ++ a)).toNat [input.toNat] = [input.toNat, line.toNat, a.toNat] := by
    obtain ⟨hline, ha⟩ := ramControl_fields hw line a
    simp [Format.unpack, hline, ha]
  cases t <;> cases write <;> exact congrArg (Call.mk _ 0) (hfields (by decide) _ a)

/-- The call of a RAM row (R83). -/
theorem toInstr_ramRow (t : Tier) (write : Signal) (a : BitVec t.addressWidth) (input : Word) :
    (Instr.toCall (ramRow t write a input : Instr nreg)).toInstr nreg = .ok (ramRow t write a input) := by
  have hwidths : (ramOperation t).argWidths = [16, 1, t.addressWidth] := by cases t <;> rfl
  rw [toCall_ramRow]
  refine toInstr_of_build ?_ ?_ ?_
  · cases t <;> exact Nat.one_pos
  · simp only [hwidths, argsFit_cons, argsFit_nil, BitVec.isLt, signalNat_lt, and_self]
  · cases t <;> simp [ramOperation, Call.build, ramRow] <;> rfl

/-- The call of a Program Counter row (R84). -/
theorem toInstr_ofPc (input : Word) (load inc reset : Signal) :
    (Instr.toCall (Instr.ofPc input load inc reset : Instr nreg)).toInstr nreg =
      .ok (Instr.ofPc input load inc reset) := by
  have hrecord : (Instr.ofPc input load inc reset : Instr nreg).packed =
      ⟨.pcLoad, 0, controlWord (BitVec.ofBool reset ++ BitVec.ofBool load ++ BitVec.ofBool inc), [input]⟩ := by
    cases load <;> cases inc <;> cases reset <;> rfl
  have hfields (a : Nat) :
      Format.pc3.unpack (controlWord (BitVec.ofBool reset ++ BitVec.ofBool load ++ BitVec.ofBool inc)).toNat [a] =
        [a, signalNat load, signalNat inc, signalNat reset] := by
    cases load <;> cases inc <;> cases reset <;> rfl
  have hcall : Instr.toCall (Instr.ofPc input load inc reset : Instr nreg) =
      ⟨.pcLoad, 0, [input.toNat, signalNat load, signalNat inc, signalNat reset]⟩ := by
    simp [Instr.toCall, hrecord, Operation.format, hfields]
  rw [hcall]
  refine toInstr_of_build Nat.one_pos ?_ ?_
  · simp only [Operation.argWidths, argsFit_cons, argsFit_nil, BitVec.isLt, signalNat_lt, and_self]
  · simp [Call.build]

/-- The call of a pure row: a gate, an adder or an ALU row (R80, R81, R85). -/
theorem toInstr_toCall_of_pure {i : Instr nreg} (h : i.component? = none) : (Instr.toCall i).toInstr nreg = .ok i := by
  have hsignal (a : Signal) : (signalWord a).toNat < 2 ^ 1 := signalWord_lt a
  have hbits8 (b : BitVec 8) : b.setWidth 16 = controlWord b := rfl
  cases i
  case latchLoadRead | latchLoadWrite | registerLoadRead | registerLoadWrite | ram8LoadRead | ram8LoadWrite |
      ram64LoadRead | ram64LoadWrite | ram512LoadRead | ram512LoadWrite | ram4KLoadRead | ram4KLoadWrite |
      ram8KLoadRead | ram8KLoadWrite | ram16KLoadRead | ram16KLoadWrite | pcReset | pcLoad | pcInc | pcHold =>
    exact nomatch h
  case nand | not | and | or | xor | mux | dmux | not16 | and16 | or16 | mux16 | or8way | mux4way16 | mux8way16 | dmux4way |
      dmux8way | halfAdder | fullAdder | add16 | inc16 =>
    refine toInstr_of_build Nat.one_pos ?_ ?_
    · simp only [Instr.toCall, Instr.packed, Operation.format, Operation.argWidths, Format.unpack, List.map, List.cons_append,
        List.nil_append, argsFit_cons, argsFit_nil, BitVec.isLt, hsignal, hbits8, controlWord_lt, and_self]
    · simp [Instr.toCall, Instr.packed, Operation.format, Format.unpack, Call.build, hbits8, setWidth_controlWord]
  all_goals exact toInstr_of_aluRecord rfl rfl

/-- Every instruction, written as a call, is in its operation's domain and names its own row (R80). -/
theorem toInstr_toCall (i : Instr nreg) : (Instr.toCall i).toInstr nreg = .ok i := by
  obtain ⟨h, -⟩ | ⟨input, write, rfl, -⟩ | ⟨k, input, write, rfl, -⟩ | ⟨t, write, a, input, rfl, -⟩ |
    ⟨input, load, inc, reset, rfl, -⟩ := execAt_cases i
  · exact toInstr_toCall_of_pure h
  · exact toInstr_latch input write
  · exact toInstr_register k input write
  · exact toInstr_ramRow t write a input
  · exact toInstr_ofPc input load inc reset

end Sys2Proof.Machine
end

section
/-! SUPPORT. The decoder takes the record of an instruction off the front of the bytes, whatever follows it. -/

namespace Sys2Proof.Machine

open Sys2Proof.Laws

variable {nreg : Nat}

/-- The record of every instruction is in range: the family `PackedFits`, assembled. -/
theorem packedFits (i : Instr) : PackedFits.Statement i := by
  cases i
  exacts [PackedFits.nand .., PackedFits.not .., PackedFits.and .., PackedFits.or .., PackedFits.xor .., PackedFits.mux ..,
    PackedFits.dmux .., PackedFits.not16 .., PackedFits.and16 .., PackedFits.or16 .., PackedFits.mux16 ..,
    PackedFits.or8way .., PackedFits.mux4way16 .., PackedFits.mux8way16 .., PackedFits.dmux4way .., PackedFits.dmux8way ..,
    PackedFits.halfAdder .., PackedFits.fullAdder .., PackedFits.add16 .., PackedFits.inc16 .., PackedFits.alu000000 ..,
    PackedFits.alu000001 .., PackedFits.alu000010 .., PackedFits.alu000011 .., PackedFits.alu000100 ..,
    PackedFits.alu000101 .., PackedFits.alu000110 .., PackedFits.alu000111 .., PackedFits.alu001000 ..,
    PackedFits.alu001001 .., PackedFits.alu001010 .., PackedFits.alu001011 .., PackedFits.alu001100 ..,
    PackedFits.alu001101 .., PackedFits.alu001110 .., PackedFits.alu001111 .., PackedFits.alu010000 ..,
    PackedFits.alu010001 .., PackedFits.alu010010 .., PackedFits.alu010011 .., PackedFits.alu010100 ..,
    PackedFits.alu010101 .., PackedFits.alu010110 .., PackedFits.alu010111 .., PackedFits.alu011000 ..,
    PackedFits.alu011001 .., PackedFits.alu011010 .., PackedFits.alu011011 .., PackedFits.alu011100 ..,
    PackedFits.alu011101 .., PackedFits.alu011110 .., PackedFits.alu011111 .., PackedFits.alu100000 ..,
    PackedFits.alu100001 .., PackedFits.alu100010 .., PackedFits.alu100011 .., PackedFits.alu100100 ..,
    PackedFits.alu100101 .., PackedFits.alu100110 .., PackedFits.alu100111 .., PackedFits.alu101000 ..,
    PackedFits.alu101001 .., PackedFits.alu101010 .., PackedFits.alu101011 .., PackedFits.alu101100 ..,
    PackedFits.alu101101 .., PackedFits.alu101110 .., PackedFits.alu101111 .., PackedFits.alu110000 ..,
    PackedFits.alu110001 .., PackedFits.alu110010 .., PackedFits.alu110011 .., PackedFits.alu110100 ..,
    PackedFits.alu110101 .., PackedFits.alu110110 .., PackedFits.alu110111 .., PackedFits.alu111000 ..,
    PackedFits.alu111001 .., PackedFits.alu111010 .., PackedFits.alu111011 .., PackedFits.alu111100 ..,
    PackedFits.alu111101 .., PackedFits.alu111110 .., PackedFits.alu111111 .., PackedFits.latchLoadRead ..,
    PackedFits.latchLoadWrite .., PackedFits.registerLoadRead .., PackedFits.registerLoadWrite .., PackedFits.ram8LoadRead ..,
    PackedFits.ram8LoadWrite .., PackedFits.ram64LoadRead .., PackedFits.ram64LoadWrite .., PackedFits.ram512LoadRead ..,
    PackedFits.ram512LoadWrite .., PackedFits.ram4KLoadRead .., PackedFits.ram4KLoadWrite .., PackedFits.ram8KLoadRead ..,
    PackedFits.ram8KLoadWrite .., PackedFits.ram16KLoadRead .., PackedFits.ram16KLoadWrite .., PackedFits.pcReset ..,
    PackedFits.pcLoad .., PackedFits.pcInc .., PackedFits.pcHold ..]

/-- The decoder reads a record in range, of a unit with a one-byte number, as the instruction its call names. -/
theorem decode_encode_of_fits {i : Instr nreg} (hunit : i.packed.unit < 2 ^ 8)
    (hdata : i.packed.data.length = i.packed.op.dataCount)
    (hcontrol : i.packed.control.toNat < 2 ^ i.packed.op.format.width) (rest : List Byte) :
    decode (encode i ++ rest) nreg = .ok (i, rest) := by
  have hcall := toInstr_toCall i
  simp only [Instr.toCall] at hcall
  simp only [encode, Packed.bytes, decode, List.cons_append, ofNumber_number, ← hdata, takeWords_wordBytes,
    wordOfBytes_lowByte_highByte, if_pos hcontrol, BitVec.toNat_ofNat, Nat.mod_eq_of_lt hunit, hcall]

/-- Every operation has at most two units at the default `NREG`. -/
theorem units_le_two (op : Operation) : op.units ≤ 2 := by cases op <;> decide

/-- Decoding the record of an instruction gives it back, with the bytes after the record. -/
theorem decode_encode (i : Instr) (rest : List Byte) : decode (encode i ++ rest) = .ok (i, rest) := by
  obtain ⟨hunit, hdata, hcontrol⟩ := packedFits i
  have hbyte : i.packed.unit < 2 ^ 8 := by have := units_le_two i.packed.op; omega
  exact decode_encode_of_fits hbyte hdata hcontrol rest

/-- A step makes the call that the pending records decode to (R8, R375). -/
theorem step_of_decode {s : State} {i : Instr} {rest : List Byte} (h : decode s.script = .ok (i, rest)) :
    step s = exec i (withScript rest s) := by
  unfold step nextCall
  cases hs : s.script with
  | nil => rw [hs] at h; exact nomatch h
  | cons b bs => simp only [← hs, h]

/-- A run whose first step answers `t` goes on from `t`. -/
theorem run_succ_of_step {M : Host.Core} {s t : M.State} {k : Nat} (h : M.step s = .next t) :
    M.run (k + 1) s = M.run k t := by simp only [Host.Core.run, h]

/-- Calls whose first answers `t` go on from `t`. -/
theorem runCalls_cons_of_execAt {i : Instr nreg} {calls : List (Instr nreg)} {s t : State nreg}
    (h : execAt i s = .next t) : runCalls (i :: calls) s = runCalls calls t := by simp only [runCalls, h]

/-- Running the records of a list of calls makes those calls one after another, with the bytes after them pending: `step`
takes one record and leaves the rest, which the calls neither read nor write (R61, R375). -/
theorem run_encoded (calls : List Instr) (rest : List Byte) (s : State) :
    Host.Core.run core calls.length (withScript (calls.flatMap encode ++ rest) s) =
      runCalls calls (withScript rest s) := by
  induction calls generalizing s with
  | nil => rfl
  | cons i calls ih =>
    obtain ⟨t, ht⟩ := execAt_completes i s
    have hstep : core.step (withScript ((i :: calls).flatMap encode ++ rest) s) =
        .next (withScript (calls.flatMap encode ++ rest) t) := by
      have hdecode : decode ((i :: calls).flatMap encode ++ rest) = .ok (i, calls.flatMap encode ++ rest) := by
        rw [List.flatMap_cons, List.append_assoc, decode_encode]
      calc step (withScript ((i :: calls).flatMap encode ++ rest) s)
        _ = exec i (withScript (calls.flatMap encode ++ rest) s) := step_of_decode hdecode
        _ = execAt i (withScript (calls.flatMap encode ++ rest) s) := exec_eq_execAt i _
        _ = .next (withScript (calls.flatMap encode ++ rest) t) := execAt_withScript _ ht
    have hcalls : runCalls (i :: calls) (withScript rest s) = runCalls calls (withScript rest t) :=
      runCalls_cons_of_execAt (execAt_withScript rest ht)
    rw [hcalls]
    exact (run_succ_of_step hstep).trans (ih t)

end Sys2Proof.Machine
end

section
/-! CERTIFICATE. The machine for every value of the arguments `NREG` and `TOP_RAM_TIER`. -/

namespace Sys2Proof.Machine

/-- Settles O59: construction by evaluation, completion and frame from `execAt_frame`, the Register's two rows from
`registerCall_eq`, and the canonical form from `StateWf.of_stepAt`. -/
theorem everyRegisterCountKeepsTheRules : Obligations.EveryRegisterCountKeepsTheRules := by
  intro nreg
  refine ⟨⟨rfl, fun k => ?_, rfl, fun t a => ?_⟩, execAt_frame, fun k input s => ⟨?_, ?_⟩, fun s t => StateWf.of_stepAt⟩
  · simp [State.construct]
  · simp [memRead, readCell]
  · calc execAt (.registerLoadRead k input) s
      _ = registerCall k input false s := rfl
      _ = .next { s with result := .word s.regs[k] } := by simp [registerCall_eq, answer]
  · calc execAt (.registerLoadWrite k input) s
      _ = registerCall k input true s := rfl
      _ = .next { s with regs := s.regs.set k input, result := .word input } := by simp [registerCall_eq, answer]

/-- Settles O60: a row of a tier is `ramCall` on that tier, which reads one cell or writes one cell of one RAM. -/
theorem everyTopTierIsTheAggregatesRam : Obligations.EveryTopTierIsTheAggregatesRam := by
  intro nreg top
  refine ⟨fun a input s => ?_, fun a input s hs => ?_, fun i s t h hc => ?_, fun a => ?_⟩
  · simp [execAt_ramRow, ramCall_eq, topRam, answer]
  · refine ⟨answer (.word input) (setRam top (writeCell (ramOf top s) a.toNat input) s), ?_, rfl, fun b => ?_,
      fun c hc => (sameAt_answer ..).mpr (sameAt_setRam hc _ s)⟩
    · simp [execAt_ramRow, ramCall_eq]
    · simp [topRam, readCell_writeCell (hs top), BitVec.toNat_inj]
  · exact (sameAt_of_execAt h hc).symm
  · simp [topRam, readCell]

end Sys2Proof.Machine
end

section
/-! CERTIFICATE. A step makes the pending call, and a run makes the caller's list of calls. -/

namespace Sys2Proof.Machine

/-- Settles O53: the pending bytes decode, so they are not empty, and `nextCall` is what they decode to. -/
theorem stepMakesTheDecodedCall : Obligations.StepMakesTheDecodedCall :=
  fun _ _ _ h => step_of_decode h

/-- Settles O56, by induction on the list of calls (`run_encoded`): each step decodes one record back to its call, and no
call sees the records after its own. -/
theorem runsMakeTheCallsInOrder : Obligations.RunsMakeTheCallsInOrder :=
  run_encoded

end Sys2Proof.Machine
end

section
/-! SUPPORT. No call reads what was returned before it; and what a component holds after a list of calls depends on what it held
before and on the calls made on it, and on nothing else. -/

namespace Sys2Proof.Machine

variable {nreg : Nat}

/-! ### Parts of the state that are the same -/

/-- Sameness of a part does not depend on which state is named first. -/
theorem SameAt.symm {c : Component nreg} {s t : State nreg} (h : SameAt c s t) : SameAt c t s := by
  cases c <;> exact Eq.symm h

/-- Sameness of a part passes through a state in between. -/
theorem SameAt.trans {c : Component nreg} {s t u : State nreg} (h : SameAt c s t) (h' : SameAt c t u) : SameAt c s u := by
  cases c <;> exact Eq.trans h h'

/-! ### What a call reads, and which calls are made on the Program Counter -/

/-- What was returned before is lost when a call that sets a RAM records its own answer. -/
theorem answer_setRam_answer (q r : CallResult) (t : Tier) (m : Memory) (s : State nreg) :
    answer q (setRam t m (answer r s)) = answer q (setRam t m s) := by cases t <;> rfl

/-- No call reads what an earlier call returned (R20). -/
theorem execAt_answer (i : Instr nreg) (r : CallResult) (s : State nreg) : execAt i (answer r s) = execAt i s := by
  obtain ⟨-, q, hi⟩ | ⟨input, write, -, -, hi⟩ | ⟨k, input, write, -, -, hi⟩ | ⟨u, write, a, input, -, -, hi⟩ |
    ⟨input, load, inc, reset, -, -, hi⟩ := execAt_cases i
  case inr.inr.inr.inl => simp only [hi, ramCall, ramOf_answer, answer_setRam_answer]
  all_goals rw [hi, hi]; rfl

/-- A call on the Program Counter is one of its four rows, under some control lines (R84). -/
theorem eq_ofPc_of_component_pc {i : Instr nreg} (h : i.component? = some .pc) :
    ∃ input load inc reset, i = Instr.ofPc input load inc reset := by
  obtain ⟨hc, -⟩ | ⟨_, _, -, hc, -⟩ | ⟨_, _, _, -, hc, -⟩ | ⟨_, _, _, _, -, hc, -⟩ |
    ⟨input, load, inc, reset, hi, -⟩ := execAt_cases i
  case inr.inr.inr.inr => exact ⟨input, load, inc, reset, hi⟩
  all_goals exact nomatch h.symm.trans hc

/-! ### Locality of a call and of a list of calls -/

/-- What a call leaves in its own component depends on what that component held, and on no other (R35). -/
theorem sameAt_execAt_own {i : Instr nreg} {c : Component nreg} {s s' t t' : State nreg} (hown : i.component? = some c)
    (hs : SameAt c s s') (h : execAt i s = .next t) (h' : execAt i s' = .next t') : SameAt c t t' := by
  obtain ⟨hc, -⟩ | ⟨input, write, -, hc, hi⟩ | ⟨k, input, write, -, hc, hi⟩ | ⟨u, write, a, input, -, hc, hi⟩ |
    ⟨input, load, inc, reset, -, hc, hi⟩ := execAt_cases i
  · exact nomatch hown.symm.trans hc
  all_goals
    obtain rfl := Option.some.inj (hown.symm.trans hc)
    rw [hi] at h h'
    obtain rfl := Host.Outcome.next.inj h
    obtain rfl := Host.Outcome.next.inj h'
  · exact congrArg (latchLoad · input write) hs
  · simpa [SameAt] using congrArg (registerLoad · input write) hs
  · simpa [SameAt] using congrArg (fun m => (ramLoad m input write a.toNat).2) hs
  · exact congrArg (pcNext · input load inc reset) hs

/-- A component that is the same before a call is the same after it, whatever the other components hold (R35, R66). -/
theorem sameAt_execAt {i : Instr nreg} {c : Component nreg} {s s' t t' : State nreg} (hs : SameAt c s s')
    (h : execAt i s = .next t) (h' : execAt i s' = .next t') : SameAt c t t' := by
  by_cases hown : i.component? = some c
  · exact sameAt_execAt_own hown hs h h'
  · exact ((sameAt_of_execAt h hown).symm.trans hs).trans (sameAt_of_execAt h' hown)

/-- Every list of calls answers a next state (R330). -/
theorem runCalls_completes (calls : List (Instr nreg)) (s : State nreg) : ∃ t : State nreg, runCalls calls s = .next t := by
  induction calls generalizing s with
  | nil => exact ⟨s, rfl⟩
  | cons i calls ih =>
    obtain ⟨t, ht⟩ := execAt_completes i s
    rw [runCalls_cons_of_execAt ht]
    exact ih t

/-- The calls of a list that are made on component `c`, in their order. -/
def callsOn (c : Component nreg) (calls : List (Instr nreg)) : List (Instr nreg) :=
  calls.filter fun i => i.component? == some c

/-- A component ends a list of calls as it ends the calls on it alone (R66). -/
theorem sameAt_runCalls_callsOn {calls : List (Instr nreg)} {c : Component nreg} {s s' t t' : State nreg}
    (hs : SameAt c s s') (h : runCalls calls s = .next t) (h' : runCalls (callsOn c calls) s' = .next t') :
    SameAt c t t' := by
  induction calls generalizing s s' with
  | nil =>
    obtain rfl := Host.Outcome.next.inj h
    obtain rfl := Host.Outcome.next.inj h'
    exact hs
  | cons i calls ih =>
    obtain ⟨u, hu⟩ := execAt_completes i s
    rw [runCalls_cons_of_execAt hu] at h
    by_cases hown : i.component? = some c
    · obtain ⟨u', hu'⟩ := execAt_completes i s'
      have hcons : callsOn c (i :: calls) = i :: callsOn c calls := by simp [callsOn, hown]
      rw [hcons, runCalls_cons_of_execAt hu'] at h'
      exact ih (sameAt_execAt hs hu hu') h h'
    · have hskip : callsOn c (i :: calls) = callsOn c calls := by simp [callsOn, hown]
      rw [hskip] at h'
      exact ih ((sameAt_of_execAt hu hown).symm.trans hs) h h'

/-- Two lists with the same calls on `c` leave `c` the same. -/
theorem sameAt_runCalls_of_callsOn_eq {calls calls' : List (Instr nreg)} {c : Component nreg} {s t t' : State nreg}
    (hcalls : callsOn c calls = callsOn c calls') (h : runCalls calls s = .next t) (h' : runCalls calls' s = .next t') :
    SameAt c t t' := by
  obtain ⟨u, hu⟩ := runCalls_completes (callsOn c calls) s
  exact (sameAt_runCalls_callsOn (SameAt.refl c s) h hu).trans
    (sameAt_runCalls_callsOn (SameAt.refl c s) h' (hcalls ▸ hu)).symm

/-! ### Well-formed cycles -/

/-- A well-formed cycle makes at most one call on a component (R365). -/
theorem length_callsOn_le_one {cycle : List (Instr nreg)} (h : cycleWellFormed cycle = true) (c : Component nreg) :
    (callsOn c cycle).length ≤ 1 := by
  have hnodup : (cycle.filterMap Instr.component?).Nodup := of_decide_eq_true h
  calc (callsOn c cycle).length
    _ = (cycle.filterMap Instr.component?).count c := by rw [List.count_filterMap, List.countP_eq_length_filter, callsOn]
    _ ≤ 1 := List.nodup_iff_count_le_one.mp hnodup c

/-- Reordering a well-formed cycle leaves the calls on each component as they are: there is at most one. -/
theorem callsOn_eq_of_perm {cycle cycle' : List (Instr nreg)} (h : cycleWellFormed cycle = true)
    (hperm : cycle.Perm cycle') (c : Component nreg) : callsOn c cycle = callsOn c cycle' := by
  have hfilter : (callsOn c cycle).Perm (callsOn c cycle') := hperm.filter _
  have hlength : (callsOn c cycle).length ≤ 1 := length_callsOn_le_one h c
  match callsOn c cycle, hlength, hfilter with
  | [], _, hfilter => exact hfilter.nil_eq
  | [i], _, hfilter => exact hfilter.singleton_eq

end Sys2Proof.Machine
end

section
/-! SUPPORT. A canonical memory is determined by its readings, and any readings below the capacity are those of one. -/

namespace Sys2Proof.Machine

/-- Of two canonical memories that read the same, the second's first listed cell is not after the first's: the first one's
first cell holds a Word that is not all-false, and a cell before every listed one holds `0x0000`. -/
theorem head_le_of_readCell_eq {cap lo lo' k j : Nat} {x y : Word} {m n : Memory}
    (hm : canonicalFrom cap lo ((k, x) :: m) = true) (hn : canonicalFrom cap lo' ((j, y) :: n) = true)
    (h : ∀ a < cap, readCell ((k, x) :: m) a = readCell ((j, y) :: n) a) : j ≤ k := by
  obtain ⟨-, hk, hx, -⟩ := canonicalFrom_cons.mp hm
  by_contra hlt
  have hbelow : readCell ((j, y) :: n) k = 0#16 :=
    readCell_below (canonicalFrom_cons.mpr ⟨le_rfl, (canonicalFrom_cons.mp hn).2⟩) (by omega)
  exact hx (by simpa [readCell] using (h k hk).trans hbelow)

/-- A canonical memory that reads `0x0000` at every address lists nothing. -/
theorem eq_nil_of_readCell_eq_zero {cap lo : Nat} {m : Memory} (hm : canonicalFrom cap lo m = true)
    (h : ∀ a < cap, readCell m a = 0#16) : m = [] := by
  cases m with
  | nil => rfl
  | cons p rest =>
    obtain ⟨k, x⟩ := p
    obtain ⟨-, hk, hx, -⟩ := canonicalFrom_cons.mp hm
    exact absurd (by simpa [readCell] using h k hk) hx

/-- Canonical memories that read the same at every address below the capacity are equal (R33). -/
theorem canonicalFrom_ext {cap lo lo' : Nat} {m n : Memory} (hm : canonicalFrom cap lo m = true)
    (hn : canonicalFrom cap lo' n = true) (h : ∀ a < cap, readCell m a = readCell n a) : m = n := by
  induction m generalizing lo lo' n with
  | nil => exact (eq_nil_of_readCell_eq_zero hn fun a ha => (h a ha).symm).symm
  | cons p m ih =>
    obtain ⟨k, x⟩ := p
    cases n with
    | nil => exact eq_nil_of_readCell_eq_zero hm h
    | cons q n =>
      obtain ⟨j, y⟩ := q
      obtain rfl : j = k :=
        le_antisymm (head_le_of_readCell_eq hm hn h) (head_le_of_readCell_eq hn hm fun a ha => (h a ha).symm)
      obtain ⟨-, hj, -, hm'⟩ := canonicalFrom_cons.mp hm
      obtain ⟨-, -, -, hn'⟩ := canonicalFrom_cons.mp hn
      obtain rfl : x = y := by simpa [readCell] using h j hj
      have htails : ∀ a < cap, readCell m a = readCell n a := by
        intro a ha
        by_cases hja : j = a
        · rw [readCell_below hm' (by omega), readCell_below hn' (by omega)]
        · simpa [readCell, hja] using h a ha
      rw [ih hm' hn' htails]

/-- Any Words at the first `n` addresses are the readings of a canonical memory: write them one after another. -/
theorem exists_memoryWf_readCell (cap : Nat) (f : Nat → Word) {n : Nat} (hn : n ≤ cap) :
    ∃ m : Memory, memoryWf cap m = true ∧ ∀ a < n, readCell m a = f a := by
  induction n with
  | zero => exact ⟨[], rfl, fun a ha => absurd ha (Nat.not_lt_zero a)⟩
  | succ n ih =>
    obtain ⟨m, hm, hread⟩ := ih (by omega)
    refine ⟨writeCell m n (f n), memoryWf_writeCell hm hn, fun a ha => ?_⟩
    rw [readCell_writeCell hm]
    split
    case isTrue han => rw [han]
    case isFalse han => exact hread a (by omega)

end Sys2Proof.Machine
end

section
/-! CERTIFICATE. The state of the machine (`10_state.md`): what a call may change and read, the order of the calls of a cycle,
the canonical form of the memories, and the construction state. -/

namespace Sys2Proof.Machine

/-- Settles O45: both orders make the same calls on each component, since a well-formed cycle makes at most one, and what a
component holds afterwards depends on these calls alone. -/
theorem orderWithinACycleIsNotObservable : Obligations.OrderWithinACycleIsNotObservable := by
  intro cycle cycle' s hwf hperm
  obtain ⟨t, ht⟩ := runCalls_completes cycle s
  obtain ⟨t', ht'⟩ := runCalls_completes cycle' s
  exact ⟨t, t', ht, ht', fun c => sameAt_runCalls_of_callsOn_eq (callsOn_eq_of_perm hwf hperm c) ht ht'⟩

/-- Settles O46: the step lemma of the invariant, which holds for every number of Registers. -/
theorem stepKeepsMemoriesCanonical : Obligations.StepKeepsMemoriesCanonical :=
  fun s _ hs h => hs.of_stepAt ((step_eq_stepAt s).symm.trans h)

/-- Settles O37: uniqueness by induction on the two lists, existence by writing the Words one after another. -/
theorem canonicalMemoriesAreArrays : Obligations.CanonicalMemoriesAreArrays :=
  ⟨fun _ _ _ hm hn h => canonicalFrom_ext hm hn h, fun cap f => exists_memoryWf_readCell cap f le_rfl⟩

/-- Settles O40: a call on another component or on none is framed (R66); a Program Counter call is read off its control
lines (R301). -/
theorem programCounterMovesOnlyByItsOwnCall : Obligations.ProgramCounterMovesOnlyByItsOwnCall := by
  intro i s t h
  by_cases hpc : i.component? = some .pc
  · obtain ⟨input, load, inc, reset, rfl⟩ := eq_ofPc_of_component_pc hpc
    rw [exec_ofPc, pcCall_eq] at h
    obtain rfl := Host.Outcome.next.inj h
    match reset, load, inc with
    | true, load, inc => exact .inr (.inl ⟨load, inc, input, rfl, rfl⟩)
    | false, true, inc => exact .inr (.inr (.inl ⟨inc, rfl⟩))
    | false, false, true => exact .inr (.inr (.inr ⟨input, rfl, rfl⟩))
    | false, false, false => exact .inl rfl
  · exact .inl (sameAt_of_execAt ((exec_eq_execAt i s).symm.trans h) hpc).symm

/-- Settles O42: the replaced state is the old one with another result recorded and other records pending, and a call is
blind to both. -/
theorem returnedValuesAreNotState : Obligations.ReturnedValuesAreNotState := by
  intro i s r script
  obtain ⟨t, ht⟩ := execAt_completes i s
  refine ⟨t, (exec_eq_execAt i s).trans ht, ?_⟩
  calc exec i (withScript script (answer r s))
    _ = execAt i (withScript script (answer r s)) := exec_eq_execAt i _
    _ = .next (withScript script t) := execAt_withScript script ((execAt_answer i r s).trans ht)

/-- Settles O47: every RAM is the empty list. -/
theorem resetMemoriesAreCanonical : Obligations.ResetMemoriesAreCanonical := by
  intro t
  rw [State.reset, ramOf_construct, memoryWf_nil]

/-- Settles O48: the fields by evaluation, each cell because its RAM is the empty list. -/
theorem constructionStateIsAllFalse : Obligations.ConstructionStateIsAllFalse := by
  refine ⟨rfl, fun i => ?_, rfl, fun t a => ?_⟩
  · simp [State.reset, State.construct]
  · rw [memRead, State.reset, ramOf_construct, readCell]

end Sys2Proof.Machine
end

section
/-! SUPPORT. The two rows of every RAM tier; and what a RAM cell holds after a call and after a list of calls: what the latest
write of that cell gave it. -/

namespace Sys2Proof.Machine

variable {nreg : Nat}

/-! ### Calls on a RAM -/

/-- A call on a RAM is a read or write row of that tier (R83). -/
theorem eq_ramRow_of_component_ram {i : Instr nreg} {t : Tier} (h : i.component? = some (.ram t)) :
    ∃ write a input, i = ramRow t write a input := by
  obtain ⟨hc, -⟩ | ⟨_, _, -, hc, -⟩ | ⟨_, _, _, -, hc, -⟩ | ⟨u, write, a, input, hi, hc, -⟩ |
    ⟨_, _, _, _, -, hc, -⟩ := execAt_cases i
  case inr.inr.inr.inl =>
    obtain rfl : u = t := Component.ram.inj (Option.some.inj (hc.symm.trans h))
    exact ⟨write, a, input, hi⟩
  all_goals exact nomatch h.symm.trans hc

/-- A row of a tier writes exactly when its `write` line is true: its input, to the cell of its address. -/
@[simp] theorem ramWriteOf_ramRow (t : Tier) (write : Signal) (a : BitVec t.addressWidth) (input : Word) :
    ramWriteOf (ramRow t write a input : Instr nreg) = if write then some (t, a.toNat, input) else none := by
  cases t <;> cases write <;> rfl

/-- A call that writes a cell is made on the RAM of that cell. -/
theorem component_of_ramWriteOf {i : Instr nreg} {t : Tier} {a : Nat} {v : Word} (h : ramWriteOf i = some (t, a, v)) :
    i.component? = some (.ram t) := by
  unfold ramWriteOf at h
  split at h <;> cases h <;> rfl

/-! ### The rows of a RAM tier -/

/-- The read row of every tier returns the addressed Word and changes no state (R272). -/
theorem ramReadRow_ramRow (t : Tier) : RamReadRow t (ramRow t false) :=
  ⟨rfl, fun a input s => by simp [exec_ramRow, ramCall_eq, answer]⟩

/-- The write row of every tier writes the addressed cell and nothing else (R55, R264). -/
theorem ramWriteRow_ramRow (t : Tier) : RamWriteRow t (ramRow t true) := by
  refine ⟨rfl, fun a input s hs => ?_⟩
  refine ⟨answer (.word input) (setRam t (writeCell (ramOf t s) a.toNat input) s), ?_, rfl, ?_, fun j hj => ?_,
    fun c hc => (sameAt_answer ..).mpr (sameAt_setRam hc _ s), setRam_script ..⟩
  · simp [exec_ramRow, ramCall_eq]
  · simpa using readCell_writeCell_same (hs t) a.toNat input
  · simpa using readCell_writeCell_other input hj

/-! ### One call and one cell -/

/-- The cell a call writes holds the call's input after it (R264). -/
theorem readCell_of_written {i : Instr nreg} {s s' : State nreg} {t : Tier} {a : Nat} {v : Word} (hs : StateWf s)
    (h : execAt i s = .next s') (hw : ramWriteOf i = some (t, a, v)) : readCell (ramOf t s') a = v := by
  obtain ⟨write, b, input, rfl⟩ := eq_ramRow_of_component_ram (component_of_ramWriteOf hw)
  obtain ⟨rfl, rfl, rfl⟩ : write = true ∧ b.toNat = a ∧ input = v := by simpa using hw
  rw [execAt_ramRow, ramCall_eq] at h
  obtain rfl := Host.Outcome.next.inj h
  simpa using readCell_writeCell_same (hs t) b.toNat input

/-- A cell that a call does not write holds after it what it held before (R55, R66, R264). -/
theorem readCell_of_not_written {i : Instr nreg} {s s' : State nreg} {t : Tier} {a : Nat}
    (h : execAt i s = .next s') (hw : ∀ v, ramWriteOf i ≠ some (t, a, v)) :
    readCell (ramOf t s') a = readCell (ramOf t s) a := by
  by_cases hown : i.component? = some (.ram t)
  · obtain ⟨write, b, input, rfl⟩ := eq_ramRow_of_component_ram hown
    rw [execAt_ramRow, ramCall_eq] at h
    obtain rfl := Host.Outcome.next.inj h
    cases write
    case false => simp
    case true =>
      have hab : a ≠ b.toNat := by rintro rfl; exact hw input (by simp)
      simpa using readCell_writeCell_other input hab
  · have hframe : ramOf t s = ramOf t s' := sameAt_of_execAt h hown
    rw [hframe]

/-! ### A list of calls, its last call taken apart -/

/-- After a list of calls that ends in `t`, one more call is made on `t`. -/
theorem runCalls_snoc {calls : List (Instr nreg)} {s t : State nreg} (h : runCalls calls s = .next t) (i : Instr nreg) :
    runCalls (calls ++ [i]) s = execAt i t := by
  induction calls generalizing s with
  | nil =>
    obtain rfl := Host.Outcome.next.inj h
    obtain ⟨u, hu⟩ := execAt_completes i s
    exact (runCalls_cons_of_execAt hu).trans hu.symm
  | cons j calls ih =>
    obtain ⟨u, hu⟩ := execAt_completes j s
    rw [runCalls_cons_of_execAt hu] at h
    exact (runCalls_cons_of_execAt hu).trans (ih h)

/-- A last call that writes the cell gives the latest write. -/
theorem lastWrite_snoc_of_written {i : Instr nreg} {t : Tier} {a : Nat} {v : Word}
    (hw : ramWriteOf i = some (t, a, v)) (calls : List (Instr nreg)) : lastWrite t a (calls ++ [i]) = v := by
  simp [lastWrite, hw]

/-- A last call that does not write the cell leaves the latest write as it was. -/
theorem lastWrite_snoc_of_not_written {i : Instr nreg} {t : Tier} {a : Nat}
    (hw : ∀ v, ramWriteOf i ≠ some (t, a, v)) (calls : List (Instr nreg)) :
    lastWrite t a (calls ++ [i]) = lastWrite t a calls := by
  simp only [lastWrite, List.foldl_append, List.foldl_cons, List.foldl_nil]
  match hi : ramWriteOf i with
  | none => rfl
  | some (u, b, v) =>
    have hne : ¬(u = t ∧ b = a) := by rintro ⟨rfl, rfl⟩; exact hw v hi
    exact if_neg hne

/-- After any calls on a constructed machine the memories are canonical and every cell holds its latest write, `0x0000` if
there is none (R40, R61). -/
theorem runCalls_construct_reads_lastWrite (calls : List (Instr nreg)) :
    ∃ s : State nreg, runCalls calls (State.construct nreg) = .next s ∧ StateWf s ∧
      ∀ (t : Tier) (a : Nat), readCell (ramOf t s) a = lastWrite t a calls := by
  induction calls using List.reverseRecOn with
  | nil => exact ⟨_, rfl, fun t => by simp, fun t a => by simp [readCell, lastWrite]⟩
  | append_singleton calls i ih =>
    obtain ⟨s, hrun, hs, hread⟩ := ih
    obtain ⟨s', hs'⟩ := execAt_completes i s
    refine ⟨s', (runCalls_snoc hrun i).trans hs', hs.of_execAt hs', fun t a => ?_⟩
    by_cases hw : ∃ v, ramWriteOf i = some (t, a, v)
    · obtain ⟨v, hw⟩ := hw
      rw [readCell_of_written hs hs' hw, lastWrite_snoc_of_written hw]
    · rw [not_exists] at hw
      rw [readCell_of_not_written hs' hw, hread, lastWrite_snoc_of_not_written hw]

end Sys2Proof.Machine
end

section
/-! SUPPORT. Which calls, written with naturals, are instructions: those that pass the three checks of their domain. -/

namespace Sys2Proof.Machine

variable {nreg : Nat}

/-- A call on a unit that exists, with as many arguments as its operation, builds some row (R57). -/
theorem exists_build {c : Call} (hunit : c.unit < c.op.units nreg) (hlength : c.args.length = c.op.argWidths.length) :
    ∃ i, c.build nreg = some i := by
  obtain ⟨op, unit, args⟩ := c
  cases op
  case registerLoad =>
    match args, hlength with
    | [input, write], _ => exact ⟨_, dif_pos hunit⟩
  case not | not16 | or8way | inc16 =>
    match args, hlength with
    | [_], _ => exact ⟨_, rfl⟩
  case nand | and | or | xor | dmux | and16 | or16 | dmux4way | dmux8way | halfAdder | add16 | latchLoad =>
    match args, hlength with
    | [_, _], _ => exact ⟨_, rfl⟩
  case mux | mux16 | fullAdder | ram8Load | ram64Load | ram512Load | ram4KLoad | ram8KLoad | ram16KLoad =>
    match args, hlength with
    | [_, _, _], _ => exact ⟨_, rfl⟩
  case pcLoad =>
    match args, hlength with
    | [_, _, _, _], _ => exact ⟨_, rfl⟩
  case mux4way16 =>
    match args, hlength with
    | [_, _, _, _, _], _ => exact ⟨_, rfl⟩
  case alu =>
    match args, hlength with
    | [_, _, _, _, _, _, _, _], _ => exact ⟨_, rfl⟩
  case mux8way16 =>
    match args, hlength with
    | [_, _, _, _, _, _, _, _, _], _ => exact ⟨_, rfl⟩

/-- A call that is an instruction passed the three checks of its domain (R331). -/
theorem wellFormed_of_toInstr {c : Call} {i : Instr nreg} (h : c.toInstr nreg = .ok i) : c.wellFormed nreg = true := by
  unfold Call.toInstr at h
  split at h
  case isFalse => exact nomatch h
  case isTrue hunit =>
    split at h
    case isFalse => exact nomatch h
    case isTrue hlength =>
      split at h
      case isFalse => exact nomatch h
      case isTrue hargs => simp [Call.wellFormed, hunit, hlength, hargs]

/-- A call is an instruction exactly when it is in the domain of its operation, for every number of Registers (R57, R331). -/
theorem exists_toInstr_iff (c : Call) : (∃ i, c.toInstr nreg = .ok i) ↔ c.wellFormed nreg = true := by
  refine ⟨fun ⟨_, h⟩ => wellFormed_of_toInstr h, fun h => ?_⟩
  obtain ⟨⟨hunit, hlength⟩, hargs⟩ :
      (c.unit < c.op.units nreg ∧ c.args.length = c.op.argWidths.length) ∧ argsFit c.op.argWidths c.args = true := by
    simpa [Call.wellFormed] using h
  obtain ⟨i, hbuild⟩ := exists_build hunit hlength
  exact ⟨i, toInstr_of_build hunit hargs hbuild⟩

end Sys2Proof.Machine
end

section
/-! CERTIFICATE. Memory (`20_memory.md`): what a RAM call returns and changes, what it leaves, and which calls there are. -/

namespace Sys2Proof.Machine

/-- Settles O35, by induction on the list of calls from its end: a call gives the cell it writes its own input and leaves
every other cell, which is what it does to the latest write. -/
theorem memoryIsSequential : Obligations.MemoryIsSequential := by
  intro calls
  obtain ⟨s, hrun, -, hread⟩ := runCalls_construct_reads_lastWrite calls
  exact ⟨s, hrun, fun t a write input => ⟨_, (exec_ramRow ..).trans (ramCall_eq ..), by simp [hread]⟩⟩

/-- Settles O31: each tier's two rows are `ramRow` with `write` false and true. -/
theorem ramLoadsReadOrWriteOneWholeCell : Obligations.RamLoadsReadOrWriteOneWholeCell :=
  ⟨⟨ramReadRow_ramRow .ram8, ramReadRow_ramRow .ram64, ramReadRow_ramRow .ram512, ramReadRow_ramRow .ram4K,
      ramReadRow_ramRow .ram8K, ramReadRow_ramRow .ram16K⟩,
    ramWriteRow_ramRow .ram8, ramWriteRow_ramRow .ram64, ramWriteRow_ramRow .ram512, ramWriteRow_ramRow .ram4K,
    ramWriteRow_ramRow .ram8K, ramWriteRow_ramRow .ram16K⟩

/-- Settles O43: the frame of a call (`execAt_frame`) at the default number of Registers. -/
theorem callsTouchOnlyTheirOwnComponent : Obligations.CallsTouchOnlyTheirOwnComponent := by
  intro i s t h
  obtain ⟨t', ht', hframe⟩ := execAt_frame i s
  obtain rfl : t' = t := Host.Outcome.next.inj (ht'.symm.trans ((exec_eq_execAt i s).symm.trans h))
  exact hframe

/-- Settles O51: `toInstr` makes the three checks of `wellFormed`, and a call that passes them builds a row. -/
theorem callsOutsideTheDomainAreTurnedAway : Obligations.CallsOutsideTheDomainAreTurnedAway :=
  exists_toInstr_iff

end Sys2Proof.Machine
end

section
/-! SUPPORT. Calls read back: a call in its operation's domain is the call that its instruction packs. -/

namespace Sys2Proof.Machine

variable {nreg : Nat}

/-! ### Arguments in range are kept by the fields they are packed in -/

/-- A Word argument keeps its value. -/
theorem toNat_wordOf {a : Nat} (h : a < 2 ^ 16) : (wordOf a).toNat = a := by
  rw [wordOf, BitVec.toNat_ofNat, Nat.mod_eq_of_lt h]

/-- A Signal argument keeps its value. -/
theorem signalNat_argSignal {a : Nat} (h : a < 2 ^ 1) : signalNat (argSignal a) = a := by
  interval_cases a <;> rfl

/-- A Signal argument keeps its value in a data operand. -/
theorem toNat_signalWord_argSignal {a : Nat} (h : a < 2 ^ 1) : (signalWord (argSignal a)).toNat = a := by
  interval_cases a <;> rfl

/-- A selector argument of one Signal keeps its value in the control word (R85). -/
theorem toNat_controlWord_argSignal {a : Nat} (h : a < 2 ^ 1) :
    (controlWord (BitVec.ofBool (argSignal a))).toNat = a := by
  interval_cases a <;> rfl

/-- A selector argument keeps its value in the control word (R85). -/
theorem toNat_controlWord_ofNat {n a : Nat} (hn : n ≤ 16) (h : a < 2 ^ n) : (controlWord (BitVec.ofNat n a)).toNat = a := by
  rw [controlWord_toNat _ hn, BitVec.toNat_ofNat, Nat.mod_eq_of_lt h]

/-! ### The call each stateful or ALU row packs -/

/-- An ALU row is the call of `alu` on its operands and its six control lines (R81). -/
theorem toCall_ofAlu (zx nx zy ny f no : Signal) (x y : Word) :
    Instr.toCall (Instr.ofAlu zx nx zy ny f no x y : Instr nreg) =
      ⟨.alu, 0, [x.toNat, y.toNat, signalNat zx, signalNat nx, signalNat zy, signalNat ny, signalNat f, signalNat no]⟩ := by
  have hfields (a b : Nat) :
      Format.alu6.unpack (controlWord (BitVec.ofBool zx ++ BitVec.ofBool nx ++ BitVec.ofBool zy ++ BitVec.ofBool ny ++
          BitVec.ofBool f ++ BitVec.ofBool no)).toNat [a, b] =
        [a, b, signalNat zx, signalNat nx, signalNat zy, signalNat ny, signalNat f, signalNat no] := by
    cases zx <;> cases nx <;> cases zy <;> cases ny <;> cases f <;> cases no <;> rfl
  rw [← hfields]
  cases zx <;> cases nx <;> cases zy <;> cases ny <;> cases f <;> cases no <;> rfl

/-- A Latch row is the call of `Latch.load` on its input and its write line (R82). -/
theorem toCall_latch (input write : Signal) :
    Instr.toCall (Instr.ofWrite write (.latchLoadRead input) (.latchLoadWrite input) : Instr nreg) =
      ⟨.latchLoad, 0, [signalNat input, signalNat write]⟩ := by
  cases input <;> cases write <;> rfl

/-- A Register row is the call of its unit's `Register.load` on its input and its write line (R82). -/
theorem toCall_register (k : Fin nreg) (input : Word) (write : Signal) :
    Instr.toCall (Instr.ofWrite write (.registerLoadRead k input) (.registerLoadWrite k input)) =
      ⟨.registerLoad, k, [input.toNat, signalNat write]⟩ := by
  cases write <;> rfl

/-- A Program Counter row is the call of `ProgramCounter.load` on its input and its three control lines (R84). -/
theorem toCall_ofPc (input : Word) (load inc reset : Signal) :
    Instr.toCall (Instr.ofPc input load inc reset : Instr nreg) =
      ⟨.pcLoad, 0, [input.toNat, signalNat load, signalNat inc, signalNat reset]⟩ := by
  have hfields (a : Nat) :
      Format.pc3.unpack (controlWord (BitVec.ofBool reset ++ BitVec.ofBool load ++ BitVec.ofBool inc)).toNat [a] =
        [a, signalNat load, signalNat inc, signalNat reset] := by
    cases load <;> cases inc <;> cases reset <;> rfl
  rw [← hfields]
  cases load <;> cases inc <;> cases reset <;> rfl

/-! ### The call an instruction was read from -/

/-- Arguments that fit a signature with a first width have a first argument, which fits that width. -/
theorem exists_cons_of_argsFit {w : Nat} {ws args : List Nat} (h : argsFit (w :: ws) args = true) :
    ∃ a as, args = a :: as ∧ a < 2 ^ w ∧ argsFit ws as = true := by
  cases args with
  | nil => exact nomatch h
  | cons a as => exact ⟨a, as, rfl, (argsFit_cons ..).mp h⟩

/-- No arguments fit the empty signature. -/
theorem eq_nil_of_argsFit {args : List Nat} (h : argsFit [] args = true) : args = [] :=
  List.length_eq_zero_iff.mp (length_of_argsFit h)

/-- The row a call of a tier's `load` builds (R83). -/
theorem build_ram (t : Tier) (input write address : Nat) :
    (Call.mk (ramOperation t) 0 [input, write, address]).build nreg =
      some (ramRow t (argSignal write) (BitVec.ofNat _ address) (wordOf input)) := by cases t <;> rfl

/-- A call of a tier's `load` that fits and builds a row is the call that row packs (R83). -/
theorem toCall_of_build_ram {t : Tier} {args : List Nat} {i : Instr nreg}
    (hargs : argsFit [16, 1, t.addressWidth] args = true) (hbuild : (Call.mk (ramOperation t) 0 args).build nreg = some i) :
    Instr.toCall i = ⟨ramOperation t, 0, args⟩ := by
  obtain ⟨input, _, rfl, hinput, hargs⟩ := exists_cons_of_argsFit hargs
  obtain ⟨write, _, rfl, hwrite, hargs⟩ := exists_cons_of_argsFit hargs
  obtain ⟨address, _, rfl, haddress, hargs⟩ := exists_cons_of_argsFit hargs
  obtain rfl := eq_nil_of_argsFit hargs
  obtain rfl := Option.some.inj ((build_ram ..).symm.trans hbuild)
  rw [toCall_ramRow, toNat_wordOf hinput, signalNat_argSignal hwrite, BitVec.toNat_ofNat, Nat.mod_eq_of_lt haddress]

/-- A call in its domain that builds a row is the call that row packs (R80). -/
theorem toCall_of_build {c : Call} {i : Instr nreg} (hunit : c.unit < c.op.units nreg)
    (hargs : argsFit c.op.argWidths c.args = true) (hbuild : c.build nreg = some i) : Instr.toCall i = c := by
  obtain ⟨op, unit, args⟩ := c
  have hbits8 {a : Nat} (h : a < 2 ^ 8) : ((BitVec.ofNat 8 a).setWidth 16).toNat = a := toNat_controlWord_ofNat (by decide) h
  have hsel2 {a : Nat} (h : a < 2 ^ 2) : (controlWord (BitVec.ofNat 2 a)).toNat = a := toNat_controlWord_ofNat (by decide) h
  have hsel3 {a : Nat} (h : a < 2 ^ 3) : (controlWord (BitVec.ofNat 3 a)).toNat = a := toNat_controlWord_ofNat (by decide) h
  cases op
  case registerLoad =>
    obtain ⟨input, _, rfl, hinput, hargs⟩ := exists_cons_of_argsFit hargs
    obtain ⟨write, _, rfl, hwrite, hargs⟩ := exists_cons_of_argsFit hargs
    obtain rfl := eq_nil_of_argsFit hargs
    obtain rfl := Option.some.inj ((dif_pos hunit).symm.trans hbuild)
    rw [toCall_register, toNat_wordOf hinput, signalNat_argSignal hwrite]
  all_goals obtain rfl : unit = 0 := Nat.lt_one_iff.mp hunit
  case ram8Load => exact toCall_of_build_ram (t := .ram8) hargs hbuild
  case ram64Load => exact toCall_of_build_ram (t := .ram64) hargs hbuild
  case ram512Load => exact toCall_of_build_ram (t := .ram512) hargs hbuild
  case ram4KLoad => exact toCall_of_build_ram (t := .ram4K) hargs hbuild
  case ram8KLoad => exact toCall_of_build_ram (t := .ram8K) hargs hbuild
  case ram16KLoad => exact toCall_of_build_ram (t := .ram16K) hargs hbuild
  -- the arguments are taken apart one width at a time, and each keeps its value in its field
  all_goals
    repeat obtain ⟨_, _, rfl, _, hargs⟩ := exists_cons_of_argsFit hargs
    obtain rfl := eq_nil_of_argsFit hargs
    obtain rfl := Option.some.inj hbuild
  case alu => simp only [toCall_ofAlu, toNat_wordOf, signalNat_argSignal, *]
  case latchLoad => simp only [toCall_latch, signalNat_argSignal, *]
  case pcLoad => simp only [toCall_ofPc, toNat_wordOf, signalNat_argSignal, *]
  all_goals
    simp only [Instr.toCall, Instr.packed, Operation.format, Format.unpack, List.map, List.cons_append, List.nil_append,
      toNat_wordOf, toNat_signalWord_argSignal, toNat_controlWord_argSignal, *]

/-- An instruction packs the call it was read from (R80). -/
theorem toCall_of_toInstr {c : Call} {i : Instr nreg} (h : c.toInstr nreg = .ok i) : Instr.toCall i = c := by
  obtain ⟨⟨hunit, hlength⟩, hargs⟩ :
      (c.unit < c.op.units nreg ∧ c.args.length = c.op.argWidths.length) ∧ argsFit c.op.argWidths c.args = true := by
    simpa [Call.wellFormed] using wellFormed_of_toInstr h
  obtain ⟨j, hbuild⟩ := exists_build hunit hlength
  obtain rfl : j = i := Except.ok.inj ((toInstr_of_build hunit hargs hbuild).symm.trans h)
  exact toCall_of_build hunit hargs hbuild

end Sys2Proof.Machine
end

section
/-! SUPPORT. Records read back: a packed control word and its data operands are determined by the arguments they stand for, and so
the decoder reads nothing but the encoder's records. -/

namespace Sys2Proof.Machine

open Sys2Proof.Laws

variable {nreg : Nat}

/-! ### The record an instruction was read from -/

/-- The arguments of a call determine the control word and the data operands they were unpacked from. -/
theorem unpack_inj {f : Format} {control control' : Nat} {data data' : List Nat} (hlength : data.length = data'.length)
    (hcontrol : control < 2 ^ f.width) (hcontrol' : control' < 2 ^ f.width)
    (h : f.unpack control data = f.unpack control' data') : control = control' ∧ data = data' := by
  have hsplit {fields fields' : List Nat} (h : data ++ fields = data' ++ fields') : data = data' ∧ fields = fields' :=
    List.append_inj h hlength
  cases f with
  | comb => exact ⟨(Nat.lt_one_iff.mp hcontrol).trans (Nat.lt_one_iff.mp hcontrol').symm, h⟩
  | sel1 | sel2 | sel3 | wr =>
    obtain ⟨hdata, hfields⟩ := hsplit h
    exact ⟨List.head_eq_of_cons_eq hfields, hdata⟩
  | alu6 | pc3 =>
    obtain ⟨hdata, hfields⟩ := hsplit h
    simp only [controlBit, List.cons.injEq] at hfields
    exact ⟨by simp only [Format.width] at *; omega, hdata⟩
  | ram w =>
    obtain ⟨hdata, hfields⟩ := hsplit h
    obtain ⟨hwrite, haddress, -⟩ : control / 2 ^ w = control' / 2 ^ w ∧ control % 2 ^ w = control' % 2 ^ w ∧ _ := by
      simpa only [List.cons.injEq] using hfields
    exact ⟨by rw [← Nat.div_add_mod control (2 ^ w), hwrite, haddress, Nat.div_add_mod], hdata⟩

/-- The call a record makes. -/
def packedCall (p : Packed) : Call :=
  ⟨p.op, p.unit, p.op.format.unpack p.control.toNat (p.data.map BitVec.toNat)⟩

/-- An instruction makes the call of its own record. -/
theorem packedCall_packed (i : Instr nreg) : packedCall i.packed = Instr.toCall i := rfl

/-- Two records in range that make the same call are the same record. -/
theorem packedCall_inj {p q : Packed} (hp : p.data.length = p.op.dataCount) (hq : q.data.length = q.op.dataCount)
    (hpc : p.control.toNat < 2 ^ p.op.format.width) (hqc : q.control.toNat < 2 ^ q.op.format.width)
    (h : packedCall p = packedCall q) : p = q := by
  obtain ⟨op, unit, control, data⟩ := p
  obtain ⟨op', unit', control', data'⟩ := q
  obtain ⟨rfl, rfl, hargs⟩ := Call.mk.inj h
  have hlength : (data.map BitVec.toNat).length = (data'.map BitVec.toNat).length := by
    rw [List.length_map, List.length_map]; exact hp.trans hq.symm
  obtain ⟨hcontrol, hdata⟩ := unpack_inj hlength hpc hqc hargs
  obtain rfl := BitVec.eq_of_toNat_eq hcontrol
  obtain rfl := List.map_injective_iff.mpr (fun _ _ => BitVec.eq_of_toNat_eq) hdata
  rfl

/-- A record in range, whose call an instruction was read from, is the record of that instruction. -/
theorem packed_of_toInstr {p : Packed} {i : Instr} (hdata : p.data.length = p.op.dataCount)
    (hcontrol : p.control.toNat < 2 ^ p.op.format.width) (h : (packedCall p).toInstr = .ok i) : i.packed = p := by
  obtain ⟨-, hdata', hcontrol'⟩ := packedFits i
  exact packedCall_inj hdata' hdata hcontrol' hcontrol ((packedCall_packed i).trans (toCall_of_toInstr h))

/-! ### The bytes an instruction was decoded from -/

/-- Operand Words that were taken off a list of bytes are as many as were asked for, laid out at its front. -/
theorem eq_wordBytes_of_takeWords {n : Nat} {bytes rest : List Byte} {ws : List Word}
    (h : takeWords n bytes = some (ws, rest)) : ws.length = n ∧ bytes = wordBytes ws ++ rest := by
  induction n, bytes using takeWords.induct generalizing ws with
  | case1 rest' => cases h; exact ⟨rfl, rfl⟩
  | case2 n lo hi bytes ws' rest' htake ih =>
    simp only [takeWords, htake] at h
    cases h
    obtain ⟨hlength, hbytes⟩ := ih htake
    exact ⟨congrArg (· + 1) hlength, by simp [wordBytes, hbytes]⟩
  | case3 n lo hi bytes htake => simp [takeWords, htake] at h
  | case4 => simp_all [takeWords]

/-- An operation is found at one number only (R89). -/
theorem eq_number_of_ofNumber {n : Byte} {op : Operation} (h : Operation.ofNumber n.toNat = some op) : n = op.number := by
  have hn : n.toNat < Operation.byNumber.length := (List.getElem?_eq_some_iff.mp h).1
  have hnodup : Operation.byNumber.Nodup := by decide
  exact BitVec.eq_of_toNat_eq ((List.getElem?_inj hn hnodup).mp (h.trans (ofNumber_number op).symm))

/-- What the decoder reads is a record in range, followed by the bytes it leaves; the instruction is the one its call names. -/
theorem exists_packed_of_decode {bytes rest : List Byte} {i : Instr nreg} (h : decode bytes nreg = .ok (i, rest)) :
    ∃ p : Packed, bytes = p.bytes ++ rest ∧ p.data.length = p.op.dataCount ∧
      p.control.toNat < 2 ^ p.op.format.width ∧ (packedCall p).toInstr nreg = .ok i := by
  unfold decode at h
  split at h
  case h_2 => exact nomatch h
  case h_1 number unit lo hi operands =>
    split at h
    case h_1 => exact nomatch h
    case h_2 op hop =>
      split at h
      case h_1 => exact nomatch h
      case h_2 data rest' htake =>
        obtain ⟨hlength, hoperands⟩ := eq_wordBytes_of_takeWords htake
        dsimp only at h
        split at h
        case isFalse => exact nomatch h
        case isTrue hcontrol =>
          split at h
          case h_2 => exact nomatch h
          case h_1 j hcall =>
            cases h
            exact ⟨⟨op, unit.toNat, wordOfBytes lo hi, data⟩,
              by simp [Packed.bytes, eq_number_of_ofNumber hop, hoperands], hlength, hcontrol, hcall⟩

/-- What the decoder reads is the record of the instruction it answers. -/
theorem eq_encode_of_decode {bytes rest : List Byte} {i : Instr} (h : decode bytes = .ok (i, rest)) :
    bytes = encode i ++ rest := by
  obtain ⟨p, hbytes, hdata, hcontrol, hcall⟩ := exists_packed_of_decode h
  rw [hbytes, encode, packed_of_toInstr hdata hcontrol hcall]

/-! ### The record of a bare control word -/

/-- An operation is found by its number only. -/
theorem number_inj {op op' : Operation} (h : op.number = op'.number) : op = op' :=
  Option.some.inj ((ofNumber_number op).symm.trans ((congrArg (fun n => Operation.ofNumber n.toNat) h).trans
    (ofNumber_number op')))

/-- Operand Words have two bytes each. -/
theorem length_wordBytes (ws : List Word) : (wordBytes ws).length = 2 * ws.length := by
  induction ws with
  | nil => rfl
  | cons w ws ih => simp only [wordBytes, List.length_cons, ih]; omega

/-- The length of a record is set by its operation. -/
theorem length_encode (i : Instr) : (encode i).length = 4 + 2 * i.packed.op.dataCount := by
  obtain ⟨-, hdata, -⟩ := packedFits i
  simp only [encode, Packed.bytes, List.length_cons, length_wordBytes, hdata]
  omega

/-- The record of a bare control word holds one call and nothing after it. -/
theorem rest_eq_nil_of_decode_tableRecord {nbits w : Nat} {i : Instr} {rest : List Byte}
    (h : decode (tableRecord nbits w) = .ok (i, rest)) : rest = [] := by
  have hrecord := eq_encode_of_decode h
  unfold tableRecord at h hrecord
  split at hrecord
  case h_1 op _ =>
    have hop : op = i.packed.op := number_inj (List.head_eq_of_cons_eq hrecord)
    have hlength := congrArg List.length hrecord
    simp only [List.length_append, length_encode, List.length_cons, List.length_replicate, ← hop] at hlength
    exact List.length_eq_zero_iff.mp (by omega)
  case h_2 hnone =>
    simp only [hnone] at h
    exact nomatch h

/-- A bare control word put in front of the pending calls is the record of the instruction it decodes to (R80). -/
theorem decode_tableRecord_append {nbits w : Nat} {i : Instr} (h : decodeTableWord nbits w = some i) (pending : List Byte) :
    decode (tableRecord nbits w ++ pending) = .ok (i, pending) := by
  unfold decodeTableWord at h
  split at h
  case h_2 => exact nomatch h
  case h_1 j rest hdecode =>
    obtain rfl := Option.some.inj h
    obtain rfl := rest_eq_nil_of_decode_tableRecord hdecode
    rw [eq_encode_of_decode hdecode, List.append_nil, decode_encode]

end Sys2Proof.Machine
end

section
/-! SUPPORT. A scripted cycle of literal calls, with the components called before it: it runs exactly when it calls each component
at most once and none of those. -/

namespace Sys2Proof.Machine

variable {nreg : Nat}

/-- Literal arguments resolve to themselves, whatever is bound (R100). -/
theorem resolveArguments_literal (env : Bindings) (args : List Nat) :
    resolveArguments env (args.map .literal) = some args := by
  induction args with
  | nil => rfl
  | cons a args ih => simp [resolveArguments, resolveArgument, ih]

/-- The scripted literal call of an instruction is that instruction (R100). -/
theorem toInstr_literalCall (i : Instr nreg) (env : Bindings) : (literalCall i).toInstr env nreg = .ok i := by
  have hcall := toInstr_toCall i
  simp only [ScriptCall.toInstr, literalCall, resolveArguments_literal, hcall]

/-- A cycle calls each component at most once, and none of those already called (R365). -/
def CallableAfter (called : List (Component nreg)) (cycle : List (Instr nreg)) : Prop :=
  (cycle.filterMap Instr.component?).Nodup ∧ called.Disjoint (cycle.filterMap Instr.component?)

/-- A cycle is well-formed exactly when it is callable with no component called before it. -/
theorem callableAfter_nil_iff (cycle : List (Instr nreg)) : CallableAfter [] cycle ↔ cycleWellFormed cycle = true := by
  simp [CallableAfter, cycleWellFormed]

/-- The first call of a callable cycle is on no component already called, and the rest is callable after it. -/
theorem callableAfter_cons (called : List (Component nreg)) (i : Instr nreg) (cycle : List (Instr nreg)) :
    CallableAfter called (i :: cycle) ↔
      (∀ c ∈ called, i.component? ≠ some c) ∧ CallableAfter (i.component?.toList ++ called) cycle := by
  cases hi : i.component? with
  | none => simp [CallableAfter, hi]
  | some c =>
    have hfresh : (∀ d ∈ called, some c ≠ some d) ↔ c ∉ called := by simp [List.forall_mem_ne]
    rw [CallableAfter, CallableAfter, List.filterMap_cons_some hi, List.nodup_cons, List.disjoint_cons_right, hfresh,
      Option.toList_some, List.singleton_append, List.disjoint_cons_left]
    tauto

/-- A literal call on a component already called is refused (R365). -/
theorem runCycle_cons_of_called {called : List (Component nreg)} {i : Instr nreg} {c : Component nreg} (hc : c ∈ called)
    (hi : i.component? = some c) (cycle : List ScriptCall) (env : Bindings) (s : State nreg) :
    runCycle (literalCall i :: cycle) called env s = .error .calledTwice := by
  have hany : (called.any fun d => i.component? == some d) = true := List.any_eq_true.mpr ⟨c, hc, by simp [hi]⟩
  simp only [runCycle, toInstr_literalCall, hany, if_true]

/-- A literal call on a component not called yet is made, binds nothing, and the cycle goes on after it. -/
theorem runCycle_cons_of_fresh {called : List (Component nreg)} {i : Instr nreg} {s t : State nreg}
    (hi : ∀ c ∈ called, i.component? ≠ some c) (h : execAt i s = .next t) (cycle : List ScriptCall) (env : Bindings) :
    runCycle (literalCall i :: cycle) called env s = runCycle cycle (i.component?.toList ++ called) env t := by
  have hany : ¬(called.any fun d => i.component? == some d) = true := by simpa using hi
  have hbind (r : CallResult) : bindResult (literalCall i).bind r env = env := rfl
  simp only [runCycle, toInstr_literalCall, if_neg hany, h, hbind]

/-- A callable cycle of literal calls runs to the state its calls reach in order (R100). -/
theorem runCycle_of_callableAfter {called : List (Component nreg)} {cycle : List (Instr nreg)} {s t : State nreg}
    (hcycle : CallableAfter called cycle) (h : runCalls cycle s = .next t) (env : Bindings) :
    runCycle (cycle.map literalCall) called env s = .ok (env, t) := by
  induction cycle generalizing called s with
  | nil =>
    obtain rfl := Host.Outcome.next.inj h
    rfl
  | cons i cycle ih =>
    obtain ⟨hfresh, hrest⟩ := (callableAfter_cons called i cycle).mp hcycle
    obtain ⟨u, hu⟩ := execAt_completes i s
    rw [runCalls_cons_of_execAt hu] at h
    exact (runCycle_cons_of_fresh hfresh hu _ env).trans (ih hrest h)

/-- A cycle of literal calls that is not callable is refused at its first call on a component already called (R365). -/
theorem runCycle_of_not_callableAfter {called : List (Component nreg)} {cycle : List (Instr nreg)}
    (hcycle : ¬CallableAfter called cycle) (env : Bindings) (s : State nreg) :
    runCycle (cycle.map literalCall) called env s = .error .calledTwice := by
  induction cycle generalizing called s with
  | nil => exact absurd ⟨List.nodup_nil, List.disjoint_nil_right called⟩ hcycle
  | cons i cycle ih =>
    rw [callableAfter_cons, not_and] at hcycle
    by_cases hcalled : ∃ c ∈ called, i.component? = some c
    · obtain ⟨c, hc, hi⟩ := hcalled
      exact runCycle_cons_of_called hc hi _ env s
    · have hfresh : ∀ c ∈ called, i.component? ≠ some c := fun c hc hi => hcalled ⟨c, hc, hi⟩
      obtain ⟨u, hu⟩ := execAt_completes i s
      exact (runCycle_cons_of_fresh hfresh hu _ env).trans (ih (hcycle hfresh) u)

end Sys2Proof.Machine
end

section
/-! SUPPORT. The two parts of a RAM address are its digits. -/

namespace Sys2Proof.Machine

/-- The local selector counts blocks of `2 ^ fwd` addresses and the forwarded address counts within one (R86). -/
theorem addressFields_toNat {w b fwd : Nat} (hw : w = b + fwd) (a : BitVec w) :
    a.toNat = (localSelector b fwd a).toNat * 2 ^ fwd + (forwardedAddress fwd a).toNat := by
  have hselector : a.toNat / 2 ^ fwd < 2 ^ b := by
    rw [Nat.div_lt_iff_lt_mul (Nat.two_pow_pos fwd), ← Nat.pow_add, ← hw]
    exact a.isLt
  calc a.toNat
    _ = a.toNat / 2 ^ fwd * 2 ^ fwd + a.toNat % 2 ^ fwd := (Nat.div_add_mod' ..).symm
    _ = (localSelector b fwd a).toNat * 2 ^ fwd + (forwardedAddress fwd a).toNat := by
      rw [localSelector, forwardedAddress, BitVec.extractLsb'_toNat, BitVec.extractLsb'_toNat, Nat.shiftRight_eq_div_pow,
        Nat.mod_eq_of_lt hselector, Nat.shiftRight_zero]

/-- An address is a local selector and a forwarded address (R261). -/
theorem Tier.addressWidth_eq (t : Tier) : t.addressWidth = t.selectorWidth + t.forwardedWidth := by cases t <;> rfl

/-- A node has a child for every local selector (R261). -/
theorem Tier.fanOut_eq (t : Tier) : t.fanOut = 2 ^ t.selectorWidth := by cases t <;> rfl

end Sys2Proof.Machine
end

section
/-! CERTIFICATE. Encodings (`30_encoding.md`): records and their calls, control words of the table, address fields, and the
stimulus script. -/

namespace Sys2Proof.Machine

/-- Settles O49: every record is in range and its call names its own row (`decode_encode`). -/
theorem decodingAnEncodedCallGivesItBack : Obligations.DecodingAnEncodedCallGivesItBack :=
  decode_encode

/-- Settles O57, by induction on the cycle with the components called before it: a call on one of them is refused, and any
other call is made as `runCalls` makes it. -/
theorem scriptedCyclesRunTheirCalls : Obligations.ScriptedCyclesRunTheirCalls := by
  intro nreg cycle env s
  rw [← Bool.not_eq_true, ← callableAfter_nil_iff]
  refine ⟨fun hcycle => ?_, fun hcycle => runCycle_of_not_callableAfter hcycle env s⟩
  obtain ⟨t, ht⟩ := runCalls_completes cycle s
  exact ⟨t, ht, runCycle_of_callableAfter hcycle ht env⟩

/-- Settles O36: the fields are quotient and remainder of the address by two to the forwarded width. -/
theorem addressFieldsAreTheDigitsOfTheAddress : Obligations.AddressFieldsAreTheDigitsOfTheAddress :=
  ⟨fun t => ⟨Tier.addressWidth_eq t, Tier.fanOut_eq t, Tier.capacity_eq t⟩,
    fun t a => addressFields_toNat (Tier.addressWidth_eq t) a⟩

/-- Settles O50: a decoded record is in range, and such a record is determined by the call it makes. -/
theorem everyDecodedRecordIsAnEncoding : Obligations.EveryDecodedRecordIsAnEncoding :=
  fun _ _ _ h => eq_encode_of_decode h

/-- Settles O55: the record of the word decodes to its row and leaves the pending calls, so the step makes that row's call in the
machine it was put in front of. -/
theorem fetchedTableWordsRun : Obligations.FetchedTableWordsRun :=
  fun s _ _ _ h => step_of_decode (decode_tableRecord_append h s.script)

/-- Settles O52, each record by evaluation of the decoder. -/
theorem wordsOfTheTableDecodeToTheirRows : Obligations.WordsOfTheTableDecodeToTheirRows := by
  refine ⟨?_, ?_, ?_, ?_, ?_, ?_, ?_, ?_, ?_⟩ <;> decide

/-- Settles O58: each expansion is a row of its tier, of its Register or of the Program Counter, whose shared call says what it
answers. -/
theorem pseudoOperationsExpandAsGiven : Obligations.PseudoOperationsExpandAsGiven := by
  intro top a v i s
  refine ⟨?_, ⟨answer (.word v) (setRam top (writeCell (ramOf top s) a.toNat v) s), ?_, rfl, ?_⟩, ?_, ?_, ?_, ?_, ?_, ?_⟩
  · simp [pseudoRamRead, exec_ramRow, ramCall_eq, memRead, answer]
  · simp [pseudoRamWrite, exec_ramRow, ramCall_eq]
  · simp [topRam]
  · calc exec (pseudoRegisterRead i) s
      _ = registerCall i 0x0000#16 false s := rfl
      _ = .next { s with result := .word s.regs[i] } := by simp [registerCall_eq, answer]
  · calc exec (pseudoRegisterWrite i v) s
      _ = registerCall i v true s := rfl
      _ = .next { s with regs := s.regs.set i v, result := .word v } := by simp [registerCall_eq, answer]
  · simp [pseudoPcHold, exec_ofPc, pcCall_eq, answer]
  · simp [pseudoPcInc, exec_ofPc, pcCall_eq, answer]
  · simp [pseudoPcJump, exec_ofPc, pcCall_eq, answer]
  · simp [pseudoPcReset, exec_ofPc, pcCall_eq, answer]

end Sys2Proof.Machine
end

section
/-! SUPPORT. What a pure call answers, the integer readings of a complemented Word, and selection and distribution over all
inputs at once: the input or the output that a selector names. -/

namespace Sys2Proof.Machine

/-- An instruction that is a pure call answers the call's value, in any form of it, and changes nothing else (R20, R23). -/
theorem exec_eq_next_of_pureCall {i : Instr} {s : State} {r value : CallResult} (hcall : exec i s = pureCall r s)
    (hvalue : r = value) : exec i s = .next { s with result := value } := by
  rw [hcall, hvalue, pureCall_eq]

/-! ### The readings of a complemented Word -/

/-- R118, the unsigned reading. -/
theorem uint_not (a : Word) : uint (~~~a) = 65535 - uint a := BitVec.toNat_not

/-- R118, the signed reading: the complement exchanges the two halves of the Words. -/
theorem sint_not (a : Word) : sint (~~~a) = -sint a - 1 := by
  have hsign : (~~~a).getLsbD 15 = !a.getLsbD 15 := by simp
  have hrange : uint a < 65536 := a.isLt
  rw [sint, sint, hsign, uint_not]
  cases a.getLsbD 15 <;> simp only [Bool.not_true, Bool.not_false, if_true, Bool.false_eq_true, if_false] <;> omega

/-! ### The OR of all inputs -/

/-- A bit vector is not zero exactly when some bit is true. -/
theorem ne_zero_iff_exists_getLsbD {n : Nat} (v : BitVec n) : v ≠ 0#n ↔ ∃ i : Fin n, v.getLsbD i = true := by
  simp only [ne_eq, BitVec.zero_iff_eq_false, not_forall, Bool.not_eq_false]
  exact ⟨fun ⟨i, hi⟩ => ⟨⟨i, BitVec.lt_of_getLsbD hi⟩, hi⟩, fun ⟨i, hi⟩ => ⟨i, hi⟩⟩

/-! ### Selection -/

/-- The four-way tree over a family of Words returns the member its selector names (R123). -/
theorem mux4way16_family (o : Fin 4 → Word) (sel2 : BitVec 2) :
    mux4way16 (o 0) (o 1) (o 2) (o 3) sel2 = o sel2.toFin := by
  have hfamily : #v[o 0, o 1, o 2, o 3] = Vector.ofFn o := rfl
  rw [mux4way16_eq, hfamily, Vector.getElem_ofFn]
  rfl

/-- The eight-way tree over a family of Words returns the member its selector names (R124). -/
theorem mux8way16_family (o : Fin 8 → Word) (sel3 : BitVec 3) :
    mux8way16 (o 0) (o 1) (o 2) (o 3) (o 4) (o 5) (o 6) (o 7) sel3 = o sel3.toFin := by
  have hfamily : #v[o 0, o 1, o 2, o 3, o 4, o 5, o 6, o 7] = Vector.ofFn o := rfl
  rw [mux8way16_eq, hfamily, Vector.getElem_ofFn]
  rfl

/-! ### Distribution -/

/-- A Word under one line shared by all its positions passes where the line is true, and is all-false elsewhere. -/
theorem wordOfSignals_and (w : Word) (line : Signal) :
    (wordOfSignals fun i => w.getLsbD i && line) = if line then w else 0x0000#16 :=
  wordOfSignals_eq _ _ fun i _ => by cases line <;> simp

/-- Output `n` of a Word spread through the four-way fan-out: the Word at the output the selector names (R125, R127). -/
theorem wordOfSignals_dmux4way (w : Word) (sel2 : BitVec 2) (n : Fin 4) :
    (wordOfSignals fun i => (dmux4way (w.getLsbD i) sel2)[n]) = if sel2.toFin = n then w else 0x0000#16 := by
  simp only [dmux4way_eq, wordOfSignals_and, decide_eq_true_eq, Fin.ext_iff, BitVec.val_toFin]

/-- Output `n` of a Word spread through the eight-way fan-out: the Word at the output the selector names (R126, R127). -/
theorem wordOfSignals_dmux8way (w : Word) (sel3 : BitVec 3) (n : Fin 8) :
    (wordOfSignals fun i => (dmux8way (w.getLsbD i) sel3)[n]) = if sel3.toFin = n then w else 0x0000#16 := by
  simp only [dmux8way_eq, wordOfSignals_and, decide_eq_true_eq, Fin.ext_iff, BitVec.val_toFin]

end Sys2Proof.Machine
end

section
/-! CERTIFICATE. Primitive Logic (`40_primitive_logic.md`): the scalar gates, the Word-wide lifts, and the trees of selection and
distribution. -/

namespace Sys2Proof.Machine

/-- Settles O3: the four lifts are the native operations on bit vectors, read one position at a time. -/
theorem wordLiftsActPositionByPosition : Obligations.WordLiftsActPositionByPosition := by
  intro a b sel s
  refine ⟨~~~a, a &&& b, a ||| b, if sel then b else a,
    exec_eq_next_of_pureCall rfl (congrArg _ (not16_eq a)), exec_eq_next_of_pureCall rfl (congrArg _ (and16_eq a b)),
    exec_eq_next_of_pureCall rfl (congrArg _ (or16_eq a b)), exec_eq_next_of_pureCall rfl (congrArg _ (mux16_eq a b sel)),
    fun i hi => ⟨?_, BitVec.getLsbD_and, BitVec.getLsbD_or, apply_ite (BitVec.getLsbD · i) ..⟩, uint_not a, sint_not a⟩
  simp [hi]

/-- Settles O5: the selector is in range, so the default is not reached. -/
theorem selectionTreesPickTheNamedInput : Obligations.SelectionTreesPickTheNamedInput := by
  intro a b c d e f g h sel2 sel3 s
  refine ⟨exec_eq_next_of_pureCall rfl (congrArg CallResult.word ?_),
    exec_eq_next_of_pureCall rfl (congrArg CallResult.word ?_)⟩
  · rw [mux4way16_eq, List.getD_eq_getElem _ _ sel2.isLt]
    rfl
  · rw [mux8way16_eq, List.getD_eq_getElem _ _ sel3.isLt]
    rfl

/-- Settles O6, output by output. -/
theorem distributionTreesAreOneHot : Obligations.DistributionTreesAreOneHot := by
  intro input sel2 sel3 s
  refine ⟨exec_eq_next_of_pureCall rfl (congrArg CallResult.dmux4 (Vector.ext fun n hn => ?_)),
    exec_eq_next_of_pureCall rfl (congrArg CallResult.dmux8 (Vector.ext fun n hn => ?_))⟩
  · rw [Vector.getElem_ofFn]
    exact dmux4way_eq input sel2 ⟨n, hn⟩
  · rw [Vector.getElem_ofFn]
    exact dmux8way_eq input sel3 ⟨n, hn⟩

/-- Settles O7: output `n` of the distributed Word is the Word where the selector names `n` and all-false elsewhere, so the
selection returns the Word, and the or of the outputs has it once. -/
theorem distributionIsUndoneBySelection : Obligations.DistributionIsUndoneBySelection := by
  intro w sel sel2 sel3
  refine ⟨?_, ?_, ?_⟩
  · simp only [dmuxGate_eq, wordOfSignals_and]
    cases sel <;> simp
  · intro o
    have ho : ∀ n, o n = if sel2.toFin = n then w else 0x0000#16 := wordOfSignals_dmux4way w sel2
    refine ⟨by rw [mux4way16_family o, ho, if_pos rfl], ?_⟩
    simp only [ho]
    generalize sel2.toFin = n
    fin_cases n <;> simp
  · intro o
    have ho : ∀ n, o n = if sel3.toFin = n then w else 0x0000#16 := wordOfSignals_dmux8way w sel3
    refine ⟨by rw [mux8way16_family o, ho, if_pos rfl], ?_⟩
    simp only [ho]
    generalize sel3.toFin = n
    fin_cases n <;> simp

/-- Settles O1: each call is pure, and its gate has the native table. -/
theorem scalarGatesFollowTheirTables : Obligations.ScalarGatesFollowTheirTables := by
  intro a b s
  exact ⟨exec_eq_next_of_pureCall rfl (congrArg _ (nandGate_eq a b)),
    exec_eq_next_of_pureCall rfl (congrArg _ (notGate_eq a)),
    exec_eq_next_of_pureCall rfl (congrArg _ (andGate_eq a b)),
    exec_eq_next_of_pureCall rfl (congrArg _ (orGate_eq a b)),
    exec_eq_next_of_pureCall rfl (congrArg _ (xorGate_eq a b))⟩

/-- Settles O2, the distribution by the two values of its selector. -/
theorem muxSelectsAndDmuxDistributes : Obligations.MuxSelectsAndDmuxDistributes := by
  intro a b input sel s
  refine ⟨exec_eq_next_of_pureCall rfl (congrArg _ (muxGate_eq a b sel)), exec_eq_next_of_pureCall rfl ?_⟩
  rw [dmuxGate_eq]
  cases sel <;> simp

/-- Settles O4: the OR-reduction is true on every vector but zero. -/
theorem orOfEightIsTrueWhenAnyInputIs : Obligations.OrOfEightIsTrueWhenAnyInputIs := by
  intro bits8 s
  refine exec_eq_next_of_pureCall rfl (congrArg CallResult.signal ?_)
  rw [or8way_eq, decide_eq_decide]
  exact ne_zero_iff_exists_getLsbD bits8

/-- Settles O8: each gate is defined as the `nand` term of its netlist, so evaluating the netlist gives that term. -/
theorem referenceNetlistsComputeTheirGates : Obligations.ReferenceNetlistsComputeTheirGates :=
  ⟨fun _ _ _ => ⟨rfl, rfl, rfl, rfl, rfl, rfl⟩, rfl, rfl, rfl, rfl, rfl, rfl⟩

end Sys2Proof.Machine
end

section
/-! SUPPORT. The two adder chains position by position, the integer readings of a sum, and negation and subtraction written with
`not16` and `add16`. -/

namespace Sys2Proof.Machine

/-! ### One position of a chain -/

/-- A half adder counts its true inputs (R141). -/
theorem signalNat_halfAdder (a b : Signal) :
    signalNat a + signalNat b = signalNat (halfAdder a b).1 + 2 * signalNat (halfAdder a b).2 := by
  cases a <;> cases b <;> rfl

/-- A full adder counts its true inputs (R142). -/
theorem signalNat_fullAdder (a b c : Signal) :
    signalNat a + signalNat b + signalNat c = signalNat (fullAdder a b c).1 + 2 * signalNat (fullAdder a b c).2 := by
  cases a <;> cases b <;> cases c <;> rfl

/-- Position `i` of the ripple chain is a full adder of the operands' positions and the carry into it (R143). -/
theorem add16_position (a b : Word) {i : Nat} (hi : i < 16) :
    ((add16 a b).getLsbD i, addCarry a b (i + 1)) = fullAdder (a.getLsbD i) (b.getLsbD i) (addCarry a b i) := by
  simp [add16, addCarry, hi]

/-- Position `i` of the increment chain is a half adder of the operand's position and the carry into it (R144). -/
theorem inc16_position (a : Word) {i : Nat} (hi : i < 16) :
    ((inc16 a).getLsbD i, incCarry a (i + 1)) = halfAdder (a.getLsbD i) (incCarry a i) := by
  simp [inc16, incCarry, hi]

/-! ### The readings of a sum -/

/-- R143, the unsigned reading. -/
theorem uint_add16 (a b : Word) : uint (add16 a b) = (uint a + uint b) % 65536 := by
  rw [add16_eq]
  exact BitVec.toNat_add a b

/-- The two readings of a Word differ by a multiple of 65536. -/
theorem sint_modEq_uint (w : Word) : sint w ≡ uint w [ZMOD 65536] := by
  rw [sint]
  cases w.getLsbD 15
  · rfl
  · exact Int.sub_emod_right ..

/-- R145, the signed reading: both readings are the sum's, modulo 65536. -/
theorem sint_add16_modEq (a b : Word) : sint (add16 a b) ≡ sint a + sint b [ZMOD 65536] :=
  calc sint (add16 a b)
    _ ≡ uint (add16 a b) [ZMOD 65536] := sint_modEq_uint _
    _ = ((uint a + uint b : Nat) : Int) % 65536 := by rw [uint_add16]; rfl
    _ ≡ (uint a : Int) + uint b [ZMOD 65536] := Int.mod_modEq ..
    _ ≡ sint a + sint b [ZMOD 65536] := ((sint_modEq_uint a).add (sint_modEq_uint b)).symm

/-! ### Negation and subtraction (R146) -/

theorem neg_eq_add16_not16 (a : Word) : -a = add16 (not16 a) 0x0001#16 := by
  rw [add16_eq, not16_eq, BitVec.neg_eq_not_add]

theorem sub_eq_not16_add16 (a b : Word) : a - b = not16 (add16 (not16 a) b) := by
  rw [not16_eq, add16_eq, not16_eq, ← BitVec.not_sub_eq_not_add, BitVec.not_not]

/-- The Word `0xFFFF` is -1. -/
theorem sub_one_eq_add16 (a : Word) : a - 0x0001#16 = add16 a 0xFFFF#16 := by
  rw [add16_eq]
  exact BitVec.sub_eq_add_neg a 0x0001#16

theorem neg_eq_not16_add16 (a : Word) : -a = not16 (add16 a 0xFFFF#16) := by
  rw [← sub_one_eq_add16, not16_eq, BitVec.not_sub_eq_not_add, BitVec.neg_eq_not_add]

end Sys2Proof.Machine
end

section
/-! CERTIFICATE. Arithmetic (`41_arithmetic.md`): the one-bit adders, the ripple adder and the incrementer, the laws of addition,
and the compositions that negate and subtract. -/

namespace Sys2Proof.Machine

/-- Settles O10: the model's ripple chain, whose carries are `addCarry`, adds as the Words do. -/
theorem rippleAdderAddsModulo65536 : Obligations.RippleAdderAddsModulo65536 := fun a b _ =>
  ⟨add16 a b, addCarry a b, exec_eq_next_of_pureCall rfl rfl, uint_add16 a b, rfl, fun _ => add16_position a b⟩

/-- Settles O11: the increment chain returns the Word that the ripple chain returns for the operand 1. -/
theorem incrementerAddsOne : Obligations.IncrementerAddsOne := by
  intro a s
  have hsum : add16 a 0x0001#16 = inc16 a := by rw [add16_eq, inc16_eq]
  refine ⟨inc16 a, incCarry a, exec_eq_next_of_pureCall rfl rfl, ?_, rfl, fun _ => inc16_position a, ?_⟩
  · rw [← hsum]
    exact uint_add16 a 0x0001#16
  · calc exec (.add16 a 0x0001#16) s
      _ = .next { s with result := .word (inc16 a) } := exec_eq_next_of_pureCall rfl (congrArg _ hsum)
      _ = exec (.inc16 a) s := (exec_eq_next_of_pureCall rfl rfl).symm

/-- Settles O12: `add16` is the addition of the commutative group of Words, and `not16(a) + 1` is `-a`. -/
theorem additionWrapsAndIsAGroup : Obligations.AdditionWrapsAndIsAGroup := by
  intro a b c
  refine ⟨uint_add16 a b, sint_add16_modEq a b, ?_, ?_, ?_, ?_⟩
  · simp only [add16_eq, BitVec.add_comm]
  · simp only [add16_eq, BitVec.add_assoc]
  · rw [add16_eq, BitVec.add_zero]
  · rw [← neg_eq_add16_not16, add16_eq, BitVec.add_right_neg]

/-- Settles O13: the corner cases are the general identities at 0, at 0x8000, and at 0 and 1. -/
theorem negationAndSubtractionAreCompositions : Obligations.NegationAndSubtractionAreCompositions := by
  refine ⟨fun a b => ⟨?_, ?_, neg_eq_add16_not16 a, neg_eq_not16_add16 a, sub_eq_not16_add16 a b, sub_one_eq_add16 a⟩,
    (neg_eq_not16_add16 0x0000#16).symm, (neg_eq_not16_add16 0x8000#16).symm, (sub_eq_not16_add16 0x0000#16 0x0001#16).symm⟩
  · rw [not16_eq, uint_not]
  · rw [not16_eq, sint_not]

/-- Settles O9: the returned functions are the adders' sum and carry, which count the true inputs. -/
theorem oneBitAddersCountTheirInputs : Obligations.OneBitAddersCountTheirInputs := by
  intro a b c s
  exact ⟨⟨_, _, exec_eq_next_of_pureCall rfl rfl, congrArg Prod.fst (halfAdder_eq a b),
      congrArg Prod.snd (halfAdder_eq a b), signalNat_halfAdder a b⟩,
    ⟨_, _, exec_eq_next_of_pureCall rfl rfl, congrArg Prod.fst (fullAdder_eq a b c),
      congrArg Prod.snd (fullAdder_eq a b c), signalNat_fullAdder a b c⟩⟩

end Sys2Proof.Machine
end

section
/-! SUPPORT. The signed reading against a Word's zero and sign; the ALU's stages in native operations and what the row of six
control lines answers; the exchange of the two operand paths; and a row's rule from its stages and its function. -/

namespace Sys2Proof.Machine

/-! ### Zero and sign of a Word -/

/-- The signed reading is the library's. -/
theorem sint_eq_toInt (w : Word) : sint w = w.toInt := by
  rw [BitVec.toInt_eq_msb_cond, BitVec.msb_eq_getLsbD_last]
  rfl

theorem sint_eq_zero_iff (w : Word) : sint w = 0 ↔ w = 0x0000#16 := by
  rw [sint_eq_toInt, ← BitVec.toInt_inj, BitVec.toInt_zero]

/-- The sign bit is bit 15 (R168). -/
theorem sint_neg_iff (w : Word) : sint w < 0 ↔ w.getLsbD 15 = true := by
  have hsign : w.getLsbD 15 = w.msb := (BitVec.msb_eq_getLsbD_last w).symm
  rw [sint_eq_toInt, hsign, BitVec.msb_eq_toInt, decide_eq_true_eq]

/-- The all-false Word (R167). -/
theorem eq_zero_iff_getLsbD (w : Word) : w = 0x0000#16 ↔ ∀ i : Nat, i < 16 → w.getLsbD i = false := by
  rw [BitVec.zero_iff_eq_false]
  exact ⟨fun h i _ => h i, fun h i => (lt_or_ge i 16).elim (h i) (BitVec.getLsbD_of_ge w i)⟩

/-! ### The four stages -/

/-- An operand after stages 1 and 2 is one of four values (R166). -/
theorem effectiveOperand_eq (z n : Signal) (v : Word) :
    effectiveOperand z n v = if z then (if n then 0xFFFF#16 else 0x0000#16) else if n then ~~~v else v := by
  rw [effectiveOperand, complementOverride_eq, zeroOverride_eq]
  cases z <;> simp

/-- Stage 3 in native operations (R163). -/
theorem aluRaw_eq (f : Signal) (u v : Word) : aluRaw f u v = if f then u + v else u &&& v := by
  rw [aluRaw, choose16_eq, add16_eq, and16_eq]

theorem aluRaw_comm (f : Signal) (u v : Word) : aluRaw f u v = aluRaw f v u := by
  rw [aluRaw_eq, aluRaw_eq, BitVec.add_comm, BitVec.and_comm]

/-- The row that six control lines choose answers `out` and both flags of `out`, and changes nothing else (R160, R167, R168). -/
theorem exec_ofAlu_answers (c : AluControl) (x y : Word) (s : State) :
    exec (Instr.ofAlu c.zx c.nx c.zy c.ny c.f c.no x y) s =
      .next { s with result := .alu (aluOut c x y) (decide (aluOut c x y = 0x0000#16)) ((aluOut c x y).getLsbD 15) } := by
  rw [exec_ofAlu, aluCall_eq, BitVec.msb_eq_getLsbD_last]
  rfl

/-! ### The exchange of the operand paths (R166) -/

/-- The control lines with the x and the y pair exchanged. -/
def AluControl.exchange (c : AluControl) : AluControl := ⟨c.zy, c.ny, c.zx, c.nx, c.f, c.no⟩

/-- The paths are alike, and stage 3 takes its operands in either order. -/
theorem aluOut_exchange (c : AluControl) (x y : Word) : aluOut c.exchange x y = aluOut c y x :=
  congrArg (complementOverride c.no) (aluRaw_comm c.f ..)

/-! ### The rule of a row -/

/-- The row of a packed control word: the row that its six lines choose (R81). -/
def aluRowOf (c : BitVec 6) (x y : Word) : Instr :=
  Instr.ofAlu (aluControlOf c).zx (aluControlOf c).nx (aluControlOf c).zy (aluControlOf c).ny (aluControlOf c).f
    (aluControlOf c).no x y

theorem packed_aluRowOf (c : BitVec 6) (x y : Word) : (aluRowOf c x y).packed = ⟨.alu, 0, controlWord c, [x, y]⟩ := by
  fin_cases c <;> rfl

variable {row row' : Word → Word → Instr} {c c' : BitVec 6} {x1 y1 x1' y1' : Word → Word} {raw raw' out : Word → Word → Word}

/-- What a row's control word says of it before stage 4. For a row of the table each field is the native reading of its stage
under the lines of a constant, so each is filled by evaluation. -/
structure AluStages (row : Word → Word → Instr) (c : BitVec 6) (x1 y1 : Word → Word) (raw : Word → Word → Word) : Prop where
  row_eq : ∀ x y, row x y = aluRowOf c x y := by exact fun _ _ => rfl
  operand_x : ∀ x, effectiveOperand (aluControlOf c).zx (aluControlOf c).nx x = x1 x := by exact fun _ => effectiveOperand_eq ..
  operand_y : ∀ y, effectiveOperand (aluControlOf c).zy (aluControlOf c).ny y = y1 y := by exact fun _ => effectiveOperand_eq ..
  raw_eq : ∀ x y, aluRaw (aluControlOf c).f (x1 x) (y1 y) = raw x y := by exact fun _ _ => aluRaw_eq ..

/-- Stage 4 is all that is left. -/
theorem AluStages.aluOut_eq (h : AluStages row c x1 y1 raw) (x y : Word) :
    aluOut (aluControlOf c) x y = if (aluControlOf c).no then ~~~raw x y else raw x y := by
  rw [← complementOverride_eq, ← h.raw_eq, ← h.operand_x, ← h.operand_y]
  rfl

theorem AluStages.aluRow (h : AluStages row c x1 y1 raw) (hout : ∀ x y, aluOut (aluControlOf c) x y = out x y) :
    AluRow row c x1 y1 raw out := by
  intro x y s
  rw [h.row_eq, ← hout]
  exact ⟨packed_aluRowOf c x y, h.operand_x x, h.operand_y y, h.raw_eq x y, rfl, exec_ofAlu_answers (aluControlOf c) x y s⟩

/-- A row with `no` false returns `raw`. -/
theorem AluRow.of_raw (hout : ∀ x y, raw x y = out x y) (hno : (aluControlOf c).no = false := by rfl)
    (h : AluStages row c x1 y1 raw := by exact {}) : AluRow row c x1 y1 raw out :=
  h.aluRow fun x y => by rw [h.aluOut_eq, hno, ← hout]; rfl

/-- A row with `no` true returns the complement of `raw`. -/
theorem AluRow.of_complement (hout : ∀ x y, ~~~raw x y = out x y) (hno : (aluControlOf c).no = true := by rfl)
    (h : AluStages row c x1 y1 raw := by exact {}) : AluRow row c x1 y1 raw out :=
  h.aluRow fun x y => by rw [h.aluOut_eq, hno, ← hout]; rfl

/-- The row with the operand paths exchanged returns the function with its operands exchanged (R166). -/
theorem AluRow.exchange (hrow : AluRow row c x1 y1 raw out)
    (hcontrol : aluControlOf c' = (aluControlOf c).exchange := by rfl)
    (h : AluStages row' c' x1' y1' raw' := by exact {}) : AluRow row' c' x1' y1' raw' (fun x y => out y x) := by
  refine h.aluRow fun x y => ?_
  obtain ⟨-, -, -, -, hout, -⟩ := hrow y x .reset
  rw [hcontrol, aluOut_exchange, hout]

end Sys2Proof.Machine
end

section
/-! SUPPORT. Conjunctions and sums of Words, of their complements and of the two constants `0x0000` and `0xFFFF`: the functions
`42_alu.md` derives for the rows. The complement of a Word is its negation less one. -/

namespace Sys2Proof.Machine

/-! ### Conjunctions -/

theorem not_and_not_right (u v : Word) : ~~~(u &&& ~~~v) = ~~~u ||| v := by
  rw [BitVec.not_and, BitVec.not_not]

theorem not_and_not_left (u v : Word) : ~~~(~~~u &&& v) = u ||| ~~~v := by
  rw [BitVec.not_and, BitVec.not_not]

theorem not_and_not_both (u v : Word) : ~~~(~~~u &&& ~~~v) = u ||| v := by
  rw [not_and_not_right, BitVec.not_not]

/-- `0xFFFF` is the neutral operand of `and`. -/
theorem and_ones (u : Word) : u &&& 0xFFFF#16 = u := BitVec.and_allOnes

/-! ### Sums -/

theorem not_add_eq (u v : Word) : ~~~(u + v) = -u - v - 1#16 := by
  rw [BitVec.not_eq_neg_add, BitVec.neg_add]

theorem add_not_right (u v : Word) : u + ~~~v = u - v - 1#16 := by
  rw [BitVec.not_eq_neg_add]
  ring

theorem not_add_not_right (u v : Word) : ~~~(u + ~~~v) = v - u := by
  rw [sub_eq_not16_add16, not16_eq, add16_eq, not16_eq, BitVec.add_comm]

theorem add_not_both (u v : Word) : ~~~u + ~~~v = -u - v - 2#16 := by
  have htwo : 2#16 = 1#16 + 1#16 := rfl
  rw [BitVec.not_eq_neg_add, BitVec.not_eq_neg_add, htwo]
  ring

theorem not_add_not_both (u v : Word) : ~~~(~~~u + ~~~v) = u + v + 1#16 := by
  rw [not_add_not_right, BitVec.not_eq_neg_add]
  ring

/-- `0xFFFF` is -1. -/
theorem add_ones (u : Word) : u + 0xFFFF#16 = u - 1#16 := by
  rw [sub_one_eq_add16, add16_eq]

theorem not_add_ones (u : Word) : ~~~(u + 0xFFFF#16) = -u := by
  rw [neg_eq_not16_add16, not16_eq, add16_eq]

theorem not_sub_one (u : Word) : ~~~u - 1#16 = -u - 2#16 := by
  rw [BitVec.not_eq_neg_add, BitVec.sub_sub]
  rfl

theorem neg_not (u : Word) : -~~~u = u + 1#16 := by
  rw [BitVec.neg_eq_not_add, BitVec.not_not]

end Sys2Proof.Machine
end

section
/-! CERTIFICATE. The ALU (`42_alu.md`): the composition of its stages, its flags, the likeness of its operand paths, and the
functions of its 64 rows. -/

namespace Sys2Proof.Machine

/-- Settles O14: the composition read in native operations (`aluOut_eq`). -/
theorem aluIsTheCompositionOfItsFourStages : Obligations.AluIsTheCompositionOfItsFourStages := by
  intro zx nx zy ny f no x y s x0 y0 x1 y1 raw out
  have hout : aluOut ⟨zx, nx, zy, ny, f, no⟩ x y = out := aluOut_eq ..
  rw [← hout]
  exact exec_ofAlu_answers ⟨zx, nx, zy, ny, f, no⟩ x y s

/-- Settles O15: the flags are those of any Word, whatever stages gave it, and its signed reading has one of three signs. -/
theorem flagsReadTheReturnedWord : Obligations.FlagsReadTheReturnedWord := by
  intro zx nx zy ny f no x y s
  refine ⟨_, _, _, exec_ofAlu_answers ⟨zx, nx, zy, ny, f, no⟩ x y s, ?_⟩
  generalize aluOut ⟨zx, nx, zy, ny, f, no⟩ x y = out
  have hzr : decide (out = 0x0000#16) = true ↔ sint out = 0 := by rw [decide_eq_true_eq, sint_eq_zero_iff]
  have hng : out.getLsbD 15 = true ↔ sint out < 0 := (sint_neg_iff out).symm
  refine ⟨by rw [decide_eq_true_eq, eq_zero_iff_getLsbD], rfl, hzr, hng, ?_, ?_⟩
  · rw [← Bool.not_eq_true, ← Bool.not_eq_true, hzr, hng]
    omega
  · rw [hzr, hng]
    omega

/-- Settles O16: the exchanged lines give the same `out`, and the flags are read from it. -/
theorem aluOperandPathsAreAlike : Obligations.AluOperandPathsAreAlike := by
  refine ⟨fun zx nx zy ny f no x y s => ?_, fun v => ?_⟩
  · have hout : aluOut ⟨zx, nx, zy, ny, f, no⟩ x y = aluOut ⟨zy, ny, zx, nx, f, no⟩ y x :=
      aluOut_exchange ⟨zy, ny, zx, nx, f, no⟩ x y
    rw [exec_ofAlu, exec_ofAlu, aluCall, aluCall, hout]
  · exact ⟨effectiveOperand_eq .., effectiveOperand_eq .., effectiveOperand_eq .., effectiveOperand_eq .., sint_not v, rfl, rfl⟩

/-- Settles O17: a row returns the and or the sum of its two operands, or the complement of that, in the form the rule gives. -/
theorem aluRowsOfXAndY : Obligations.AluRowsOfXAndY :=
  ⟨.of_raw fun _ _ => rfl, .of_complement fun _ _ => rfl,
    .of_raw fun _ _ => rfl, .of_complement not_add_eq,
    .of_raw fun _ _ => rfl, .of_complement not_and_not_right,
    .of_raw add_not_right, .of_complement not_add_not_right⟩

/-- Settles O18: `0x0000` and `0xFFFF` annihilate or are neutral under `and`, and add 0 or -1. -/
theorem aluRowsOfXAndConstantY : Obligations.AluRowsOfXAndConstantY :=
  ⟨.of_raw fun _ _ => BitVec.and_zero, .of_complement fun _ _ => by rw [BitVec.and_zero]; rfl,
    .of_raw fun x _ => BitVec.add_zero x, .of_complement fun _ _ => by rw [BitVec.add_zero],
    .of_raw fun x _ => and_ones x, .of_complement fun _ _ => by rw [and_ones],
    .of_raw fun x _ => add_ones x, .of_complement fun x _ => not_add_ones x⟩

/-- Settles O19: the two rows that subtract are rows of O17 with the operand paths exchanged. -/
theorem aluRowsOfNotXAndY : Obligations.AluRowsOfNotXAndY := by
  obtain ⟨-, -, -, -, -, -, hxSubYSubOne, hySubX⟩ := aluRowsOfXAndY
  exact ⟨.of_raw fun _ _ => rfl, .of_complement not_and_not_left,
    hxSubYSubOne.exchange, hySubX.exchange,
    .of_raw fun _ _ => rfl, .of_complement not_and_not_both,
    .of_raw add_not_both, .of_complement not_add_not_both⟩

/-- Settles O20: the functions of O18 at `~x`. -/
theorem aluRowsOfNotXAndConstantY : Obligations.AluRowsOfNotXAndConstantY :=
  ⟨.of_raw fun _ _ => BitVec.and_zero, .of_complement fun _ _ => by rw [BitVec.and_zero]; rfl,
    .of_raw fun x _ => BitVec.add_zero (~~~x), .of_complement fun _ _ => by rw [BitVec.add_zero, BitVec.not_not],
    .of_raw fun x _ => and_ones (~~~x), .of_complement fun _ _ => by rw [and_ones, BitVec.not_not],
    .of_raw fun _ _ => by rw [add_ones, not_sub_one], .of_complement fun _ _ => by rw [not_add_ones, neg_not]⟩

/-- Settles O21: the rows with the operand `0x0000` for y, in O18 and O20, with the operand paths exchanged. -/
theorem aluRowsOfZeroAndY : Obligations.AluRowsOfZeroAndY := by
  obtain ⟨hx000, hx001, hx010, hx011, -⟩ := aluRowsOfXAndConstantY
  obtain ⟨hn000, hn001, hn010, hn011, -⟩ := aluRowsOfNotXAndConstantY
  exact ⟨hx000.exchange, hx001.exchange, hx010.exchange, hx011.exchange,
    hn000.exchange, hn001.exchange, hn010.exchange, hn011.exchange⟩

/-- Settles O22: both operands are constants, so each function is one value. -/
theorem aluRowsOfZeroAndConstantY : Obligations.AluRowsOfZeroAndConstantY :=
  ⟨.of_raw fun _ _ => rfl, .of_complement fun _ _ => rfl, .of_raw fun _ _ => rfl, .of_complement fun _ _ => rfl,
    .of_raw fun _ _ => rfl, .of_complement fun _ _ => rfl, .of_raw fun _ _ => rfl, .of_complement fun _ _ => rfl⟩

/-- Settles O23: the rows with the operand `0xFFFF` for y, in O18 and O20, with the operand paths exchanged. -/
theorem aluRowsOfOnesAndY : Obligations.AluRowsOfOnesAndY := by
  obtain ⟨-, -, -, -, hx100, hx101, hx110, hx111⟩ := aluRowsOfXAndConstantY
  obtain ⟨-, -, -, -, hn100, hn101, hn110, hn111⟩ := aluRowsOfNotXAndConstantY
  exact ⟨hx100.exchange, hx101.exchange, hx110.exchange, hx111.exchange,
    hn100.exchange, hn101.exchange, hn110.exchange, hn111.exchange⟩

/-- Settles O24: both operands are constants, so each function is one value. -/
theorem aluRowsOfOnesAndConstantY : Obligations.AluRowsOfOnesAndConstantY :=
  ⟨.of_raw fun _ _ => rfl, .of_complement fun _ _ => rfl, .of_raw fun _ _ => rfl, .of_complement fun _ _ => rfl,
    .of_raw fun _ _ => rfl, .of_complement fun _ _ => rfl, .of_raw fun _ _ => rfl, .of_complement fun _ _ => rfl⟩

end Sys2Proof.Machine
end

section
/-! SUPPORT. The rows of the Latch and of a Register; the holds, none of which changes state (`43_latch_register.md` R243, R245);
and the one call that changes a Latch or a Register (R246). -/

namespace Sys2Proof.Machine

variable {nreg : Nat}

/-! ### The rows of the Latch and of a Register (R240, R241) -/

/-- A read of the Latch returns its bit and changes no state. -/
theorem execAt_latchLoadRead (input : Signal) (s : State nreg) :
    execAt (.latchLoadRead input) s = .next (answer (.signal s.latch) s) := latchCall_eq input false s

/-- A write of the Latch returns the bit it now holds. -/
theorem execAt_latchLoadWrite (input : Signal) (s : State nreg) :
    execAt (.latchLoadWrite input) s = .next (answer (.signal input) { s with latch := input }) := latchCall_eq input true s

/-- A read of a Register returns its Word and changes no state. -/
theorem execAt_registerLoadRead (k : Fin nreg) (input : Word) (s : State nreg) :
    execAt (.registerLoadRead k input) s = .next (answer (.word s.regs[k]) s) :=
  calc execAt (.registerLoadRead k input) s
    _ = registerCall k input false s := rfl
    _ = .next (answer (.word s.regs[k]) s) := by simp [registerCall_eq]

/-- A write of a Register returns the Word it now holds. -/
theorem execAt_registerLoadWrite (k : Fin nreg) (input : Word) (s : State nreg) :
    execAt (.registerLoadWrite k input) s = .next (answer (.word input) { s with regs := s.regs.set k input }) :=
  registerCall_eq k input true s

/-! ### Holds -/

/-- A read of a RAM returns the addressed Word and changes no state (R272). -/
theorem execAt_ramRow_read (t : Tier) (a : BitVec t.addressWidth) (input : Word) (s : State nreg) :
    execAt (ramRow t false a input) s = .next (answer (.word (readCell (ramOf t s) a.toNat)) s) :=
  (execAt_ramRow ..).trans (ramCall_eq ..)

/-- The Program Counter's HOLD returns the counter and changes no state (R305). -/
theorem execAt_pcHold (input : Word) (s : State nreg) : execAt (.pcHold input) s = .next (answer (.word s.pc) s) :=
  pcCall_eq input false false false s

/-- The Program Counter looks at its input in the LOAD class alone (R308). -/
theorem execAt_ofPc_ignores_input {load reset : Signal} (h : reset = true ∨ load = false) (inc : Signal) (v w : Word)
    (s : State nreg) : execAt (Instr.ofPc v load inc reset) s = execAt (Instr.ofPc w load inc reset) s := by
  rw [execAt_ofPc, execAt_ofPc, pcCall_eq, pcCall_eq]
  rcases h with rfl | rfl <;> rfl

/-- A hold is a read row of the Latch, of a Register or of a RAM, or the Program Counter's HOLD. -/
theorem isHold_cases {i : Instr nreg} (h : isHold i = true) :
    (∃ input, i = .latchLoadRead input) ∨ (∃ k input, i = .registerLoadRead k input) ∨
    (∃ t a input, i = ramRow t false a input) ∨ ∃ input, i = .pcHold input := by
  unfold isHold at h
  split at h
  case h_1 p => exact .inl ⟨p, rfl⟩
  case h_2 k v => exact .inr (.inl ⟨k, v, rfl⟩)
  case h_3 a v => exact .inr (.inr (.inl ⟨.ram8, a, v, rfl⟩))
  case h_4 a v => exact .inr (.inr (.inl ⟨.ram64, a, v, rfl⟩))
  case h_5 a v => exact .inr (.inr (.inl ⟨.ram512, a, v, rfl⟩))
  case h_6 a v => exact .inr (.inr (.inl ⟨.ram4K, a, v, rfl⟩))
  case h_7 a v => exact .inr (.inr (.inl ⟨.ram8K, a, v, rfl⟩))
  case h_8 a v => exact .inr (.inr (.inl ⟨.ram16K, a, v, rfl⟩))
  case h_9 v => exact .inr (.inr (.inr ⟨v, rfl⟩))
  case h_10 => exact nomatch h

/-- A hold returns some value and changes no state (R245). -/
theorem execAt_of_isHold {i : Instr nreg} (h : isHold i = true) (s : State nreg) :
    ∃ r : CallResult, execAt i s = .next (answer r s) := by
  obtain ⟨input, rfl⟩ | ⟨k, input, rfl⟩ | ⟨t, a, input, rfl⟩ | ⟨input, rfl⟩ := isHold_cases h
  · exact ⟨_, execAt_latchLoadRead input s⟩
  · exact ⟨_, execAt_registerLoadRead k input s⟩
  · exact ⟨_, execAt_ramRow_read t a input s⟩
  · exact ⟨_, execAt_pcHold input s⟩

/-- Calls that each return `r` and change no state do so one after another, since none reads what the one before it returned
(R20). -/
theorem runCalls_of_answer {calls : List (Instr nreg)} {r : CallResult} {s : State nreg} (hne : calls ≠ [])
    (h : ∀ i ∈ calls, execAt i s = .next (answer r s)) : runCalls calls s = .next (answer r s) := by
  induction calls generalizing s with
  | nil => exact absurd rfl hne
  | cons i calls ih =>
    obtain ⟨hi, hcalls⟩ := List.forall_mem_cons.mp h
    rw [runCalls_cons_of_execAt hi]
    by_cases hnil : calls = []
    · rw [hnil]; rfl
    · exact ih hnil fun j hj => (execAt_answer j r s).trans (hcalls j hj)

/-- Reads of the Latch, with any inputs, return its bit and change no state. -/
theorem runCalls_latchLoadRead {inputs : List Signal} (h : inputs ≠ []) (s : State nreg) :
    runCalls (inputs.map fun a => .latchLoadRead a) s = .next (answer (.signal s.latch) s) :=
  runCalls_of_answer (by simpa using h) (List.forall_mem_map.mpr fun a _ => execAt_latchLoadRead a s)

/-- Reads of a Register, with any inputs, return its Word and change no state. -/
theorem runCalls_registerLoadRead {inputs : List Word} (h : inputs ≠ []) (k : Fin nreg) (s : State nreg) :
    runCalls (inputs.map fun a => .registerLoadRead k a) s = .next (answer (.word s.regs[k]) s) :=
  runCalls_of_answer (by simpa using h) (List.forall_mem_map.mpr fun a _ => execAt_registerLoadRead k a s)

/-! ### The call that changes a component -/

/-- A call after which a component differs is made on that component (R66). -/
theorem component_of_not_sameAt {i : Instr nreg} {c : Component nreg} {s t : State nreg} (h : execAt i s = .next t)
    (hc : ¬SameAt c s t) : i.component? = some c :=
  Decidable.byContradiction fun hne => hc (sameAt_of_execAt h hne)

/-- A call on the Latch is one of its two rows (R82). -/
theorem eq_ofWrite_of_component_latch {i : Instr nreg} (h : i.component? = some .latch) :
    ∃ input write, i = Instr.ofWrite write (.latchLoadRead input) (.latchLoadWrite input) := by
  obtain ⟨hc, -⟩ | ⟨input, write, hi, -⟩ | ⟨_, _, _, -, hc, -⟩ | ⟨_, _, _, _, -, hc, -⟩ |
    ⟨_, _, _, _, -, hc, -⟩ := execAt_cases i
  case inr.inl => exact ⟨input, write, hi⟩
  all_goals exact nomatch h.symm.trans hc

/-- A call on a Register is one of its two rows (R82). -/
theorem eq_ofWrite_of_component_register {i : Instr nreg} {k : Fin nreg} (h : i.component? = some (.register k)) :
    ∃ input write, i = Instr.ofWrite write (.registerLoadRead k input) (.registerLoadWrite k input) := by
  obtain ⟨hc, -⟩ | ⟨_, _, -, hc, -⟩ | ⟨j, input, write, hi, hc, -⟩ | ⟨_, _, _, _, -, hc, -⟩ |
    ⟨_, _, _, _, -, hc, -⟩ := execAt_cases i
  case inr.inr.inl =>
    obtain rfl : j = k := Component.register.inj (Option.some.inj (hc.symm.trans h))
    exact ⟨input, write, hi⟩
  all_goals exact nomatch h.symm.trans hc

/-- Only the Latch's own write changes the Latch, to the bit it writes (R246). -/
theorem eq_latchLoadWrite_of_latch_ne {i : Instr nreg} {s t : State nreg} (h : execAt i s = .next t)
    (hne : t.latch ≠ s.latch) : i = .latchLoadWrite t.latch := by
  obtain ⟨input, write, rfl⟩ :=
    eq_ofWrite_of_component_latch (component_of_not_sameAt (c := .latch) h hne.symm)
  cases write with
  | false =>
    obtain rfl := Host.Outcome.next.inj ((execAt_latchLoadRead input s).symm.trans h)
    exact absurd rfl hne
  | true =>
    obtain rfl := Host.Outcome.next.inj ((execAt_latchLoadWrite input s).symm.trans h)
    rfl

/-- Only a Register's own write changes that Register, to the Word it writes (R246). -/
theorem eq_registerLoadWrite_of_register_ne {i : Instr nreg} {k : Fin nreg} {s t : State nreg} (h : execAt i s = .next t)
    (hne : t.regs[k] ≠ s.regs[k]) : i = .registerLoadWrite k t.regs[k] := by
  obtain ⟨input, write, rfl⟩ :=
    eq_ofWrite_of_component_register (component_of_not_sameAt (c := .register k) h hne.symm)
  cases write with
  | false =>
    obtain rfl := Host.Outcome.next.inj ((execAt_registerLoadRead k input s).symm.trans h)
    exact absurd rfl hne
  | true =>
    obtain rfl := Host.Outcome.next.inj ((execAt_registerLoadWrite k input s).symm.trans h)
    simp [Instr.ofWrite]

end Sys2Proof.Machine
end

section
/-! CERTIFICATE. The Latch and the Register (`43_latch_register.md`): the two rows of each, the round trip, the holds of every
stateful operation, and what alone changes a Latch or a Register. -/

namespace Sys2Proof.Machine

/-- Settles O26: the rows at the default number of Registers, and `registerLoad` read at one position. -/
theorem registerLoadHoldsOrTakesItsInput : Obligations.RegisterLoadHoldsOrTakesItsInput := by
  refine ⟨fun i input s => ?_, fun held input write k hk => ?_⟩
  · simp only [exec_eq_execAt]
    exact ⟨execAt_registerLoadRead i input s, execAt_registerLoadWrite i input s⟩
  · rw [registerLoad, getLsbD_wordOfSignals, decide_eq_true hk, Bool.true_and]

/-- Settles O27: each write leaves its value in the Latch or the Register, and holds return what that holds and change no
state. -/
theorem writtenValuesAreReadBack : Obligations.WrittenValuesAreReadBack := by
  simp only [Obligations.WrittenValuesAreReadBack, exec_eq_execAt]
  refine ⟨fun s v w => ?_, fun s i v w => ?_⟩
  · exact ⟨_, execAt_latchLoadWrite v s, rfl, fun as has => ⟨_, runCalls_latchLoadRead has _, rfl,
      _, execAt_latchLoadWrite w _, rfl, fun bs hbs => ⟨_, runCalls_latchLoadRead hbs _, rfl⟩⟩⟩
  · exact ⟨_, execAt_registerLoadWrite i v s, rfl, fun as has => ⟨_, runCalls_registerLoadRead has i _, by simp,
      _, execAt_registerLoadWrite i w _, rfl, fun bs hbs => ⟨_, runCalls_registerLoadRead hbs i _, by simp⟩⟩⟩

/-- Settles O28: one hold returns some `r` and changes no state (`execAt_of_isHold`), and so do its repetitions. -/
theorem holdsNeverChangeState : Obligations.HoldsNeverChangeState := by
  intro i s hold
  obtain ⟨r, hr⟩ := execAt_of_isHold hold s
  refine ⟨r, fun n => runCalls_of_answer (by simp) fun j hj => ?_⟩
  rw [List.eq_of_mem_replicate hj, hr]

/-- Settles O30: a call that changes a component is made on it (R66), and of its two rows the read changes nothing. -/
theorem onlyOwnWriteChangesLatchOrRegister : Obligations.OnlyOwnWriteChangesLatchOrRegister := by
  intro i s t h
  have hcall : execAt i s = .next t := (exec_eq_execAt i s).symm.trans h
  exact ⟨eq_latchLoadWrite_of_latch_ne hcall, fun _ => eq_registerLoadWrite_of_register_ne hcall⟩

/-- Settles O25: the Latch's two rows. -/
theorem latchLoadHoldsOrTakesItsInput : Obligations.LatchLoadHoldsOrTakesItsInput := by
  intro input s
  simp only [exec_eq_execAt]
  exact ⟨execAt_latchLoadRead input s, execAt_latchLoadWrite input s⟩

/-- Settles O29: what a read row answers does not mention its input, and the Program Counter passes its input on in the LOAD
class alone. -/
theorem ignoredInputsHaveNoInfluence : Obligations.IgnoredInputsHaveNoInfluence := by
  intro s p q v w i load inc a8 a64 a512 a4K a8K a16K
  have hram (t : Tier) (a : BitVec t.addressWidth) :
      execAt (ramRow t false a v) s = execAt (ramRow t false a w) s :=
    (execAt_ramRow_read t a v s).trans (execAt_ramRow_read t a w s).symm
  simp only [exec_eq_execAt]
  exact ⟨(execAt_latchLoadRead p s).trans (execAt_latchLoadRead q s).symm,
    (execAt_registerLoadRead i v s).trans (execAt_registerLoadRead i w s).symm,
    hram .ram8 a8, hram .ram64 a64, hram .ram512 a512, hram .ram4K a4K, hram .ram8K a8K, hram .ram16K a16K,
    execAt_ofPc_ignores_input (load := load) (.inl rfl) inc v w s,
    execAt_ofPc_ignores_input (reset := false) (.inr rfl) true v w s,
    execAt_ofPc_ignores_input (reset := false) (.inr rfl) false v w s⟩

end Sys2Proof.Machine
end

section
/-! SUPPORT. The recursive RAM node against its leaves (`44_tiered_ram.md` R260, R263, R264): each fan-out calls the child its
selector names under the node's own `write` and every other child with `write` false, so a node of such children is flat, that is
one whole-Word Register per address, and the write-enable lines of its leaves are one-hot. Both are proved for one level of
nesting and then read off tier by tier. -/

namespace Sys2Proof.Machine

/-! ### An address and its two digits -/

/-- Addresses are the same when their local selectors and their forwarded addresses are (R86). -/
theorem eq_iff_addressFields_eq {w b fwd : Nat} (hw : w = b + fwd) (x y : BitVec w) :
    x = y ↔ localSelector b fwd x = localSelector b fwd y ∧ forwardedAddress fwd x = forwardedAddress fwd y := by
  refine ⟨fun h => h ▸ ⟨rfl, rfl⟩, fun ⟨hselector, hforwarded⟩ => BitVec.eq_of_toNat_eq ?_⟩
  rw [addressFields_toNat hw x, addressFields_toNat hw y, hselector, hforwarded]

/-- Numbers written with a digit below `m` and a block number are the same when both digits are. -/
theorem digits_eq_iff {m n s j f : Nat} (hj : j < m) (hf : f < m) : n * m + j = s * m + f ↔ n = s ∧ j = f := by
  refine ⟨fun h => ?_, fun ⟨hn, hj⟩ => hn ▸ hj ▸ rfl⟩
  have hmod := congrArg (· % m) h
  have hdiv := congrArg (· / m) h
  have hm : 0 < m := Nat.zero_lt_of_lt hj
  simp only [Nat.mul_add_mod_self_right, Nat.mod_eq_of_lt hj, Nat.mod_eq_of_lt hf] at hmod
  simp only [Nat.mul_comm _ m, Nat.mul_add_div hm, Nat.div_eq_of_lt hj, Nat.div_eq_of_lt hf, Nat.add_zero] at hdiv
  exact ⟨hdiv, hmod⟩

/-! ### One level of nesting -/

section Nesting

variable {C : Type} {n b fwd w : Nat}

/-- A generic node of `n = 2 ^ b` children: it returns what the child its selector names returns under the node's own `write`,
and leaves in each child what that child's own call leaves, under `write` for the named child and `false` for every other. -/
structure IsFanOut (hn : 2 ^ b = n)
    (load : (C → Signal → Word × C) → Vector C n → Signal → BitVec b → Word × Vector C n) : Prop where
  returns : ∀ child children write sel, (load child children write sel).1 = (child (childAt children sel hn) write).1
  leaves : ∀ child children write sel k, childAt (load child children write sel).2 k hn =
    (child (childAt children k hn) (write && decide (sel.toNat = k.toNat))).2

/-- The node of 8 children, of which Ram8, Ram64, Ram512 and Ram4K are made (R265 to R268). -/
theorem isFanOut_load8 : IsFanOut (C := C) (n := 8) (b := 3) rfl load8 :=
  ⟨load8_fst, fun child children write sel k => load8_snd child children write sel k.toFin⟩

/-- The node of 4 children, of which Ram16K is made (R270). -/
theorem isFanOut_load4 : IsFanOut (C := C) (n := 4) (b := 2) rfl load4 :=
  ⟨load4_fst, fun child children write sel k => load4_snd child children write sel k.toFin⟩

/-- The node of 2 children, of which Ram8K is made (R269). -/
theorem isFanOut_load2 : IsFanOut (C := C) (n := 2) (b := 1) rfl load2 :=
  ⟨load2_fst, fun child children write sel k => load2_snd child children write sel k.toFin⟩

/-- A `load` in the flat reading of R264: it returns what the addressed cell holds after it, and changes no other cell. -/
structure IsFlat (load : C → Word → Signal → BitVec w → Word × C) (cell : C → BitVec w → Word) : Prop where
  returns : ∀ node input write a, (load node input write a).1 = if write then input else cell node a
  leaves : ∀ node input write a x,
    cell (load node input write a).2 x = if write && decide (x = a) then input else cell node x

/-- A Register is the flat memory of no address bits (R263, R265). -/
theorem isFlat_register : IsFlat
    (fun (held input : Word) (write : Signal) (_ : BitVec 0) => (registerLoad held input write, registerLoad held input write))
    (fun held _ => held) :=
  ⟨fun held input write _ => registerLoad_eq held input write, fun held input write a x => by
    simp [BitVec.eq_nil a, BitVec.eq_nil x]⟩

/-- A node of flat children is flat: a leaf takes the input exactly when both digits of its address agree with the call's, the
selector by the node's fan-out and the forwarded address inside the child (R260). -/
theorem IsFlat.node {hn : 2 ^ b = n} {load : (C → Signal → Word × C) → Vector C n → Signal → BitVec b → Word × Vector C n}
    {childLoad : C → Word → Signal → BitVec fwd → Word × C} {childCell : C → BitVec fwd → Word} (hw : w = b + fwd)
    (hload : IsFanOut hn load) (hchild : IsFlat childLoad childCell) : IsFlat
    (fun node input write (a : BitVec w) =>
      load (fun child we => childLoad child input we (forwardedAddress fwd a)) node write (localSelector b fwd a))
    (fun node a => childCell (childAt node (localSelector b fwd a) hn) (forwardedAddress fwd a)) := by
  refine ⟨fun node input write a => ?_, fun node input write a x => ?_⟩
  · rw [hload.returns, hchild.returns]
  · have haddress : (x = a) ↔ (localSelector b fwd a).toNat = (localSelector b fwd x).toNat ∧
        forwardedAddress fwd x = forwardedAddress fwd a := by
      rw [eq_iff_addressFields_eq hw, ← BitVec.toNat_inj, eq_comm]
    rw [hload.leaves, hchild.leaves]
    simp only [haddress, Bool.decide_and, Bool.and_assoc]

/-- The lines of a fan-out of lines: line `f` of block `s` is the one that gets `write`. -/
theorem flatMap_oneHotLines {m f : Nat} (hf : f < m) (n s : Nat) (write : Signal) :
    (oneHotLines n write s).flatMap (fun we => oneHotLines m we f) = oneHotLines (n * m) write (s * m + f) := by
  induction n with
  | zero => simp [oneHotLines]
  | succ n ih =>
    have hblock : oneHotLines m (write && decide (n = s)) f =
        ((List.range m).map (n * m + ·)).map fun k => write && decide (k = s * m + f) := by
      rw [oneHotLines, List.map_map]
      refine List.map_congr_left fun j hj => ?_
      simp only [Function.comp_apply, digits_eq_iff (List.mem_range.mp hj) hf, Bool.decide_and, Bool.and_assoc]
    calc (oneHotLines (n + 1) write s).flatMap (fun we => oneHotLines m we f)
      _ = (oneHotLines n write s).flatMap (fun we => oneHotLines m we f) ++ oneHotLines m (write && decide (n = s)) f := by
        simp [oneHotLines, List.range_succ]
      _ = oneHotLines ((n + 1) * m) write (s * m + f) := by
        rw [ih, hblock, Nat.succ_mul, oneHotLines, oneHotLines, List.range_add, List.map_append]

/-- The lines a fan-out gives to the leaves of its children are one-hot when those of the fan-out and of a child are (R263). -/
theorem flatMap_lines_eq {write : Signal} {a : BitVec w} {nodeLines : List Signal}
    {childLines : Signal → BitVec fwd → List Signal} (hw : w = b + fwd)
    (hnode : nodeLines = oneHotLines (2 ^ b) write (localSelector b fwd a).toNat)
    (hchild : ∀ we x, childLines we x = oneHotLines (2 ^ fwd) we x.toNat) :
    (nodeLines.flatMap fun we => childLines we (forwardedAddress fwd a)) = oneHotLines (2 ^ w) write a.toNat := by
  simp only [hnode, hchild]
  rw [flatMap_oneHotLines (forwardedAddress fwd a).isLt, ← Nat.pow_add, ← hw, ← addressFields_toNat hw]

/-- The line of the leaf `x`. -/
theorem getD_oneHotLines (write : Signal) (a x : BitVec w) :
    (oneHotLines (2 ^ w) write a.toNat).getD x.toNat false = (write && decide (x = a)) := by
  simp [oneHotLines, List.getD, x.isLt, BitVec.toNat_inj]

/-- Each leaf of a flat node with one-hot lines is what its Register makes of it under its own line (R263). -/
theorem IsFlat.leaves_eq_registerLoad {load : C → Word → Signal → BitVec w → Word × C} {cell : C → BitVec w → Word}
    {lines : Signal → BitVec w → List Signal} (hflat : IsFlat load cell)
    (hlines : ∀ write a, lines write a = oneHotLines (2 ^ w) write a.toNat) (write : Signal) (node : C) (a x : BitVec w)
    (input : Word) :
    cell (load node input write a).2 x = registerLoad (cell node x) input ((lines write a).getD x.toNat false) := by
  rw [hflat.leaves, hlines, getD_oneHotLines, registerLoad_eq]

end Nesting

/-! ### The six tiers (R265 to R270) -/

theorem isFlat_ram8 : IsFlat ram8NodeLoad ram8Cell := isFlat_register.node rfl isFanOut_load8
theorem isFlat_ram64 : IsFlat ram64NodeLoad ram64Cell := isFlat_ram8.node rfl isFanOut_load8
theorem isFlat_ram512 : IsFlat ram512NodeLoad ram512Cell := isFlat_ram64.node rfl isFanOut_load8
theorem isFlat_ram4K : IsFlat ram4KNodeLoad ram4KCell := isFlat_ram512.node rfl isFanOut_load8
theorem isFlat_ram8K : IsFlat ram8KNodeLoad ram8KCell := isFlat_ram4K.node rfl isFanOut_load2
theorem isFlat_ram16K : IsFlat ram16KNodeLoad ram16KCell := isFlat_ram4K.node rfl isFanOut_load4

/-- The eight-way fan-out as lines (R126). -/
theorem toList_dmux8way (write : Signal) (sel : BitVec 3) :
    (dmux8way write sel).toList = oneHotLines 8 write sel.toNat :=
  List.ext_getElem (by simp [oneHotLines]) fun k hk _ => by
    simpa [oneHotLines, eq_comm] using dmux8way_eq write sel ⟨k, by simpa using hk⟩

/-- The four-way fan-out as lines (R125). -/
theorem toList_dmux4way (write : Signal) (sel : BitVec 2) :
    (dmux4way write sel).toList = oneHotLines 4 write sel.toNat :=
  List.ext_getElem (by simp [oneHotLines]) fun k hk _ => by
    simpa [oneHotLines, eq_comm] using dmux4way_eq write sel ⟨k, by simpa using hk⟩

/-- The two-way fan-out as lines (R117). -/
theorem lines_dmuxGate (write : Signal) (sel : BitVec 1) :
    [(dmuxGate write (sel.getLsbD 0)).1, (dmuxGate write (sel.getLsbD 0)).2] = oneHotLines 2 write sel.toNat := by
  revert write sel; decide

theorem ram8Enables_eq (write : Signal) (a : BitVec 3) : ram8Enables write a = oneHotLines 8 write a.toNat := by
  rw [ram8Enables, toList_dmux8way, localSelector, BitVec.extractLsb'_eq_self]

theorem ram64Enables_eq (write : Signal) (a : BitVec 6) : ram64Enables write a = oneHotLines (2 ^ 6) write a.toNat :=
  flatMap_lines_eq rfl (toList_dmux8way write _) ram8Enables_eq

theorem ram512Enables_eq (write : Signal) (a : BitVec 9) : ram512Enables write a = oneHotLines (2 ^ 9) write a.toNat :=
  flatMap_lines_eq rfl (toList_dmux8way write _) ram64Enables_eq

theorem ram4KEnables_eq (write : Signal) (a : BitVec 12) : ram4KEnables write a = oneHotLines (2 ^ 12) write a.toNat :=
  flatMap_lines_eq rfl (toList_dmux8way write _) ram512Enables_eq

theorem ram8KEnables_eq (write : Signal) (a : BitVec 13) : ram8KEnables write a = oneHotLines (2 ^ 13) write a.toNat :=
  flatMap_lines_eq rfl (lines_dmuxGate write _) ram4KEnables_eq

theorem ram16KEnables_eq (write : Signal) (a : BitVec 14) : ram16KEnables write a = oneHotLines (2 ^ 14) write a.toNat :=
  flatMap_lines_eq rfl (toList_dmux4way write _) ram4KEnables_eq

/-! ### A row of a tier on the state -/

/-- What a row of a tier returns, and what each cell of the tier holds after it (R264). -/
theorem exec_ramRow_reads (t : Tier) (write : Signal) (a : BitVec t.addressWidth) (input : Word) {s : State} (hs : StateWf s) :
    ∃ s' : State, exec (ramRow t write a input) s = .next s' ∧
      s'.result = .word (if write then input else memRead t a s) ∧
      ∀ x : BitVec t.addressWidth, memRead t x s' = if write && decide (x = a) then input else memRead t x s := by
  refine ⟨_, (exec_ramRow ..).trans (ramCall_eq ..), rfl, fun x => ?_⟩
  cases write with
  | false => simp [memRead]
  | true => simp [memRead, readCell_writeCell (hs t), BitVec.toNat_inj]

/-- The rows of a tier refine every flat node of its address width. -/
theorem ramRefines_of_isFlat {t : Tier} {Node : Type} {load : Node → Word → Signal → BitVec t.addressWidth → Word × Node}
    {cell : Node → BitVec t.addressWidth → Word} (hflat : IsFlat load cell) :
    RamRefines t load cell (ramRow t false) (ramRow t true) := by
  intro s node a input hs hrep
  have hrow (write : Signal) : ∃ s' : State, exec (ramRow t write a input) s = .next s' ∧
      s'.result = .word (load node input write a).1 ∧ Represents t cell s' (load node input write a).2 := by
    obtain ⟨s', hexec, hresult, hcells⟩ := exec_ramRow_reads t write a input hs
    have hheld (x : BitVec t.addressWidth) : memRead t x s = cell node x := hrep x
    refine ⟨s', hexec, ?_, fun x => ?_⟩
    · rw [hresult, hflat.returns, hheld]
    · rw [hflat.leaves, ← hheld]
      exact hcells x
  exact ⟨hrow false, hrow true⟩

end Sys2Proof.Machine
end

section
/-! CERTIFICATE. The RAM tiers (`44_tiered_ram.md`): the rows against the recursive node, the lines that reach its leaves, and
what a write leaves of the other addresses. -/

namespace Sys2Proof.Machine

/-- Settles O32: a node of flat children is flat (`IsFlat.node`), up from the Register, and the rows of a tier do on its memory
what a flat node does on its leaves. -/
theorem ramTiersRefineTheRecursiveNode : Obligations.RamTiersRefineTheRecursiveNode :=
  ⟨ramRefines_of_isFlat (t := .ram8) isFlat_ram8, ramRefines_of_isFlat (t := .ram64) isFlat_ram64,
    ramRefines_of_isFlat (t := .ram512) isFlat_ram512, ramRefines_of_isFlat (t := .ram4K) isFlat_ram4K,
    ramRefines_of_isFlat (t := .ram8K) isFlat_ram8K, ramRefines_of_isFlat (t := .ram16K) isFlat_ram16K⟩

/-- Settles O33: one-hot lines through a fan-out stay one-hot (`flatMap_oneHotLines`), and a flat node changes the leaf whose
line is true. -/
theorem writeEnableIsOneHot : Obligations.WriteEnableIsOneHot := fun write =>
  ⟨ram8Enables_eq write, ram64Enables_eq write, ram512Enables_eq write, ram4KEnables_eq write, ram8KEnables_eq write,
    ram16KEnables_eq write, fun held input => registerLoad_eq held input false,
    isFlat_ram8.leaves_eq_registerLoad ram8Enables_eq write, isFlat_ram64.leaves_eq_registerLoad ram64Enables_eq write,
    isFlat_ram512.leaves_eq_registerLoad ram512Enables_eq write, isFlat_ram4K.leaves_eq_registerLoad ram4KEnables_eq write,
    isFlat_ram8K.leaves_eq_registerLoad ram8KEnables_eq write, isFlat_ram16K.leaves_eq_registerLoad ram16KEnables_eq write⟩

/-- Settles O34: the read after the write returns what its cell holds then. -/
theorem ramAddressesAreIsolated : Obligations.RamAddressesAreIsolated := by
  refine ⟨fun t x v s hs => ?_, fun t y => ?_⟩
  · obtain ⟨s1, hwrite, -, hcells⟩ := exec_ramRow_reads t true x v hs
    refine ⟨s1, hwrite, fun y input => ⟨_, (exec_eq_execAt ..).trans (execAt_ramRow_read ..), ?_⟩⟩
    simpa [memRead] using hcells y
  · rw [memRead, State.reset, ramOf_construct, readCell]

end Sys2Proof.Machine
end

section
/-! SUPPORT. The Program Counter's record, and the Word its Register is given. -/

namespace Sys2Proof.Machine

variable {nreg : Nat}

/-- The record of a Program Counter row packs its three control lines as `reset load inc` (R84, R306). -/
theorem packed_ofPc (input : Word) (load inc reset : Signal) :
    (Instr.ofPc input load inc reset : Instr nreg).packed =
      ⟨.pcLoad, 0, controlWord (BitVec.ofBool reset ++ BitVec.ofBool load ++ BitVec.ofBool inc), [input]⟩ := by
  match reset, load, inc with
  | true, _, _ => rfl
  | false, true, _ => rfl
  | false, false, true => rfl
  | false, false, false => rfl

/-- The Register is given the nested selections, with write-enable `load or inc or reset` (R301). -/
theorem pcNext_eq_registerLoad (current input : Word) (load inc reset : Signal) :
    pcNext current input load inc reset =
      registerLoad current (if reset then 0#16 else if load then input else if inc then current + 1#16 else current)
        (load || inc || reset) := by
  rw [pcNext, pcStage_eq, orGate_eq, orGate_eq]

end Sys2Proof.Machine
end

section
/-! CERTIFICATE. The Program Counter (`45_program_counter.md`): its four classes, and the priority of its control lines. -/

namespace Sys2Proof.Machine

/-- Settles O38: each class is the one call of R301 under control lines that decide its selections. -/
theorem programCounterClasses : Obligations.ProgramCounterClasses := by
  intro load inc input s
  have hcall (load inc reset : Signal) := (exec_ofPc input load inc reset s).trans (pcCall_eq input load inc reset s)
  exact ⟨hcall load inc true, hcall true inc false, hcall false true false, hcall false false false⟩

/-- Settles O39: the Word the Register holds after the call is `pcNext`; where no line enables the Register, the selections
end in the Word it holds already (`pcNext_eq`). -/
theorem programCounterPriority : Obligations.ProgramCounterPriority := by
  intro input load inc reset s incremented stage0 stage1 stage2 next
  have hnext : next = pcNext s.pc input load inc reset := (pcNext_eq_registerLoad ..).symm
  rw [hnext]
  exact ⟨packed_ofPc .., exec_ofPc .., pcNext_eq ..⟩

end Sys2Proof.Machine
end

section
/-! SUPPORT. A step whose pending records begin with no call of the hardware. -/

namespace Sys2Proof.Machine

variable {nreg : Nat}

/-- With bytes pending, the next call is what they decode to. -/
theorem nextCall_of_script_ne_nil {s : State nreg} (hne : s.script ≠ []) :
    nextCall s = some (decode s.script nreg) := by
  unfold nextCall
  cases hs : s.script with
  | nil => exact absurd hs hne
  | cons b bs => rfl

/-- A step refuses pending bytes that decode to no instruction, with the decoder's reason (R331, U1). -/
theorem step_of_decode_error {s : State} {e : DecodeError} (hne : s.script ≠ []) (h : decode s.script = .error e) :
    step s = .refused (.rejectedCall e) := by
  simp only [step, nextCall_of_script_ne_nil hne, h]

end Sys2Proof.Machine
end

section
/-! CERTIFICATE. Exceptions (`60_exceptions.md`): every call completes, no step faults, and a step that makes no call holds
or refuses. -/

namespace Sys2Proof.Machine

/-- Settles O41: a call completes for every number of Registers (`execAt_completes`), and there is no fault to answer, since
the fault type is empty (D16). -/
theorem everyCallCompletes : Obligations.EveryCallCompletes := by
  constructor
  · intro i s
    rw [exec_eq_execAt]
    exact execAt_completes i s
  · intro s r
    exact nomatch r

/-- Settles O54: with nothing pending there is no next call, and pending bytes are the next call, which the decoder refuses. -/
theorem stepWithoutACallHoldsOrRefuses : Obligations.StepWithoutACallHoldsOrRefuses :=
  ⟨step_nil, fun _ _ => step_of_decode_error⟩

end Sys2Proof.Machine
end

section
/-! SUPPORT. A component outside a list of calls. -/

namespace Sys2Proof.Machine

variable {nreg : Nat}

/-- A component that no call of a list is made on keeps its state: it ends the list as it ends the empty list (R66). -/
theorem sameAt_of_runCalls {calls : List (Instr nreg)} {c : Component nreg} {s t : State nreg}
    (h : runCalls calls s = .next t) (huncalled : ∀ i ∈ calls, i.component? ≠ some c) : SameAt c s t := by
  have hnone : callsOn c calls = callsOn c [] := by simpa [callsOn] using huncalled
  exact (sameAt_runCalls_of_callsOn_eq hnone h rfl).symm

/-- A hold completes and leaves every component as it was (R245). -/
theorem sameCore_of_isHold {i : Instr nreg} (h : isHold i = true) (s : State nreg) :
    ∃ t : State nreg, execAt i s = .next t ∧ SameCore s t := by
  obtain ⟨r, hr⟩ := execAt_of_isHold h s
  exact ⟨answer r s, hr, fun c => (sameAt_answer ..).mpr (SameAt.refl c s)⟩

end Sys2Proof.Machine
end

section
/-! CERTIFICATE. Hazards (`70_reset_and_hazards.md`): a component that receives no call keeps its state. -/

namespace Sys2Proof.Machine

/-- Settles O44: an uncalled component has no call of the list on it, and a hold only records what it returned. -/
theorem uncalledComponentsHold : Obligations.UncalledComponentsHold := by
  constructor
  · intro calls s t c hrun huncalled
    exact sameAt_of_runCalls hrun huncalled
  · intro i s hold
    rw [exec_eq_execAt]
    exact sameCore_of_isHold hold s

end Sys2Proof.Machine
end
